-- ==== Sys2Proof/Word.lean ====
section
/-! DEFINITION. The word types of the block and the numbers of its registers (00 R7, R9). -/

namespace Sys2Proof

/-- A 32-bit register value, address or ARM instruction word (00 R7). -/
abbrev Word := BitVec 32

/-- A 16-bit halfword, Thumb instruction or device register (00 R7). -/
abbrev Half := BitVec 16

/-- A byte, the unit memory is addressed in (20 R200). -/
abbrev Byte := BitVec 8

/-- A general register number, R0 to R15 (10 R100). -/
abbrev Reg := Fin 16

/-- A low register number of a Thumb instruction, R0 to R7 (44). -/
abbrev LoReg := Fin 8

end Sys2Proof
end

