-- ==== Sys2Proof/Machine/Bits.lean ====
section
/-! DEFINITION. Helpers on words: alignment, rotation, sign extension, byte lanes (00 R9, R11). -/

namespace Sys2Proof.Machine

/-- `a AND NOT 1`. -/
def align2 (a : Word) : Word := a &&& 0xFFFFFFFE

/-- `a AND NOT 3`. -/
def align4 (a : Word) : Word := a &&& 0xFFFFFFFC

/-- `ROR(v, n)`: rotate right by n mod 32 (00 R9). -/
def rorWord (v : Word) (n : Nat) : Word := v.rotateRight (n % 32)

/-- `sext_N(v)` of an N-bit value (00 R9). -/
def sext {n : Nat} (v : BitVec n) : Word := v.signExtend 32

/-- `zext_N(v)` of an N-bit value (00 R9). -/
def zext {n : Nat} (v : BitVec n) : Word := v.setWidth 32

/-- `signed(v)` (00 R9). -/
def signedOf (v : Word) : Int := v.toInt

/-- The word of an integer modulo 2^32 (00 R9). -/
def wordOfInt (x : Int) : Word := BitVec.ofInt 32 x

/-- Byte `k` of a word, 0 the least significant. -/
def byteOf (v : Word) (k : Nat) : Byte := v.extractLsb' (8 * k) 8

/-- Lane 0 or 1 of a 16-bit device register (20 R233). -/
def laneOf (v : Half) (lane1 : Bool) : Byte := if lane1 then v.extractLsb' 8 8 else v.extractLsb' 0 8

/-- A 16-bit value with byte `b` in the given lane and `other`'s byte in the other lane (20 R233). -/
def withLane (other : Half) (lane1 : Bool) (b : Byte) : Half :=
  if lane1 then b ++ other.extractLsb' 0 8 else other.extractLsb' 8 8 ++ b

/-- The indices of the set bits of a list, rising. -/
def setBits {n : Nat} (v : BitVec n) : List Nat := (List.range n).filter fun k => v.getLsbD k

/-- `popcount` (00 R9). -/
def popcount {n : Nat} (v : BitVec n) : Nat := (setBits v).length

end Sys2Proof.Machine
end

