-- ==== Sys2Proof/Machine/Sparse.lean ====
section
/-! DEFINITION. Sparse arrays: lists of (key, value) pairs in one canonical form, keys strictly rising and no entry equal to
the default, which every key not listed has. Memory, tables of parameters and the framebuffer are held so. -/

namespace Sys2Proof.Machine

/-- The value at key `k`: the listed one, or the default `d`. -/
def Sparse.get {α : Type} (d : α) (l : List (Nat × α)) (k : Nat) : α :=
  match l with
  | [] => d
  | e :: rest => if e.1 = k then e.2 else Sparse.get d rest k

/-- Puts an entry in its place by key, replacing one of the same key. -/
def Sparse.insert {α : Type} (l : List (Nat × α)) (k : Nat) (v : α) : List (Nat × α) :=
  match l with
  | [] => [(k, v)]
  | e :: rest => if k < e.1 then (k, v) :: e :: rest else if e.1 = k then (k, v) :: rest else e :: Sparse.insert rest k v

/-- Takes out the entry of a key. -/
def Sparse.erase {α : Type} (l : List (Nat × α)) (k : Nat) : List (Nat × α) := l.filter fun e => !(e.1 == k)

/-- Writes `v` at key `k`; writing the default takes the entry out. -/
def Sparse.set {α : Type} [DecidableEq α] (d : α) (l : List (Nat × α)) (k : Nat) (v : α) : List (Nat × α) :=
  if v = d then Sparse.erase l k else Sparse.insert l k v

/-- Every key of the list is above `k`. -/
def Sparse.above {α : Type} (k : Nat) (l : List (Nat × α)) : Bool :=
  match l with
  | [] => true
  | e :: rest => k < e.1 && Sparse.above k rest

/-- The canonical form: keys strictly rising, no entry equal to the default. -/
def Sparse.wf {α : Type} [DecidableEq α] (d : α) (l : List (Nat × α)) : Bool :=
  match l with
  | [] => true
  | e :: rest => decide (e.2 ≠ d) && Sparse.above e.1 rest && Sparse.wf d rest

/-- Takes out every entry whose key is in `lo` to `hi - 1`: that range is the default again. -/
def Sparse.clear {α : Type} (l : List (Nat × α)) (lo hi : Nat) : List (Nat × α) :=
  l.filter fun e => e.1 < lo || hi ≤ e.1

end Sys2Proof.Machine
end

