-- ==== Sys2Proof/Config.lean ====
section
/-! DEFINITION. What an implementation fixes: the free values of the spec (00 R12, spec/93 section 2), the cartridge
collaborator the spec leaves outside (20 R214), and the type of the parameters the model takes (00 R8). -/

namespace Sys2Proof

/-- What a free value stands for: the five tags of spec/93 section 2. -/
inductive AnyTag where
  | mulCarry            -- C after MUL or MLA with S = 1, and after Thumb MUL (41 R450, 44 R674)
  | mullCarry           -- C after a long multiply with S = 1 (41 R452)
  | mullOverflow        -- V after a long multiply with S = 1 (41 R452)
  | stWbRnEqRd          -- the value stored by a store with write-back and Rn = Rd (42 R501)
  | stmWbBaseNotLowest  -- the base stored by STM with write-back, not lowest in the list (42 R532, 45 R722)
  deriving DecidableEq, Repr

/-- `ANY32(tag)`: a free 32-bit value (00 R12). It has no body: no proof can see it. The number is the
State counter `freeIdx`, so that each draw is a fresh value (log 9). -/
opaque Config.any32 : AnyTag → Nat → Word

/-- `ANY1(tag)`: a free bit (00 R12; log 9). -/
opaque Config.any1 : AnyTag → Nat → Bool

/-- `cartRead8` of a cartridge collaborator other than the reference one, in the collaborator's state
(20 R214; log 5). No body. -/
opaque Config.cartRead8 : Nat → Word → Byte

/-- The state such a collaborator has after `cartWrite8` (20 R214; log 5). No body. -/
opaque Config.cartWrite8 : Nat → Word → Byte → Nat

/-- `CYC`, a function of the instruction and the state that is at least 1 everywhere (00 R8; log 2): what it has above 1. -/
inductive CycModel where
  | fixed (above : Nat)      -- the same for every instruction in every state
  | function (k : Nat)       -- function number `k` of `Config.cycAbove`
  deriving DecidableEq, Repr

/-- The parameters of 00 R8, all of them plain data, held in State and never written by a step, so that a
statement about every state is one about every value of them (log 1). `CART` is the field `cart` of State.
A cost of at least 1 is held as what it has above 1 (log 2). A table lists (key, value) pairs; a key it does
not list has the reference value. -/
structure Params where
  /-- `HLE_INSTALLED`. -/
  hleInstalled : Bool
  /-- `BIOS_IMAGE`: (offset, byte) pairs; an offset not listed holds 0. -/
  bios : List Host.Cell
  /-- `UNMAPPED_READ(addr, n)`, keyed by `8 * addr + n`; not listed: 0. -/
  unmappedRead : List (Nat × Word)
  /-- `CYC`. -/
  cyc : CycModel
  /-- `HALT_CYC` less 1. -/
  haltExtra : Nat
  /-- `IRQ_CYC` less 1. -/
  irqExtra : Nat
  /-- `HLE_CYC(n)` less 1, keyed by the call number; not listed: 0. -/
  hleExtra : List (Nat × Nat)
  /-- `STOP_WAKE_MASK`. -/
  stopWakeMask : Half
  /-- `EXT_IRQ`: the set of requested bits, keyed by the cycle count; not listed: none. -/
  extIrq : List (Nat × Half)
  /-- `PPU_BATCH` less 1. -/
  ppuBatchExtra : Nat
  deriving DecidableEq, Repr

end Sys2Proof
end

