-- ==== Sys2Proof/Machine/Regs.lean ====
section
/-! DEFINITION. The modes, the banked register file's names and the status registers as data (10 R100 to R117). -/

namespace Sys2Proof.Machine

/-- The seven processor modes (10 R102). -/
inductive Mode where
  | usr | fiq | irq | svc | abt | und | sys
  deriving DecidableEq, Repr

/-- The banks of R13 and R14: `usr` serves User and System mode (10 R103). -/
inductive Bank where
  | usr | fiq | irq | svc | abt | und
  deriving DecidableEq, Repr

/-- The five exception modes, which have an SPSR (10 R114). -/
inductive Exc where
  | fiq | irq | svc | abt | und
  deriving DecidableEq, Repr

/-- The thirty physical general registers other than R15 (10 R101): R0 to R7; R8 to R12 in two banks; R13 and
R14 in six. -/
inductive GReg where
  | low (n : Fin 8)
  | mid (fiq : Bool) (n : Fin 5)   -- R(8 + n)
  | sp (b : Bank)
  | lr (b : Bank)
  deriving DecidableEq, Repr

/-- What a register number names: a general register or the program counter (10 R103). -/
inductive PReg where
  | gen (g : GReg)
  | pc
  deriving DecidableEq, Repr

/-- A saved status register: the flags, I, F, T and a mode field that may hold any value (10 R109, R112, R113). -/
structure Psr where
  n : Bool
  z : Bool
  c : Bool
  v : Bool
  i : Bool
  f : Bool
  t : Bool
  m : BitVec 5
  deriving DecidableEq, Repr

/-- The current status register: as an SPSR, but the mode is one of the seven (10 R109, R112). -/
structure Cpsr where
  n : Bool
  z : Bool
  c : Bool
  v : Bool
  i : Bool
  f : Bool
  t : Bool
  mode : Mode
  deriving DecidableEq, Repr

/-- The mode field of a mode (10 R102). -/
def Mode.bits (m : Mode) : BitVec 5 :=
  match m with
  | .usr => 0b10000 | .fiq => 0b10001 | .irq => 0b10010 | .svc => 0b10011
  | .abt => 0b10111 | .und => 0b11011 | .sys => 0b11111

/-- The mode of a mode field, if it is one of the seven legal values (10 R102). -/
def Mode.ofBits? (b : BitVec 5) : Option Mode :=
  match b with
  | 0b10000#5 => some .usr | 0b10001#5 => some .fiq | 0b10010#5 => some .irq | 0b10011#5 => some .svc
  | 0b10111#5 => some .abt | 0b11011#5 => some .und | 0b11111#5 => some .sys | _ => none

/-- Every mode but User is privileged (10 R102). -/
def Mode.privileged (m : Mode) : Bool :=
  match m with
  | .usr => false | .fiq => true | .irq => true | .svc => true | .abt => true | .und => true | .sys => true

/-- The exception mode whose SPSR is the current one; User and System have none (10 R114). -/
def Mode.exc? (m : Mode) : Option Exc :=
  match m with
  | .usr => none | .fiq => some .fiq | .irq => some .irq | .svc => some .svc
  | .abt => some .abt | .und => some .und | .sys => none

/-- The bank of R13 and R14 in a mode (10 R103). -/
def Mode.bank (m : Mode) : Bank :=
  match m with
  | .usr => .usr | .fiq => .fiq | .irq => .irq | .svc => .svc | .abt => .abt | .und => .und | .sys => .usr

/-- `bank(m, n)`: the register that number `n` names in mode `m` (10 R103). -/
def bank (m : Mode) (n : Reg) : PReg :=
  if h : n.val < 8 then .gen (.low ⟨n.val, h⟩)
  else if h : n.val < 13 then .gen (.mid (m = .fiq) ⟨n.val - 8, by omega⟩)
  else if n.val = 13 then .gen (.sp m.bank)
  else if n.val = 14 then .gen (.lr m.bank)
  else .pc

/-- The position of a bank among the six. -/
def Bank.idx (b : Bank) : Fin 6 :=
  match b with
  | .usr => 0 | .fiq => 1 | .irq => 2 | .svc => 3 | .abt => 4 | .und => 5

/-- The position of an exception mode among the five SPSRs. -/
def Exc.idx (e : Exc) : Fin 5 :=
  match e with
  | .fiq => 0 | .irq => 1 | .svc => 2 | .abt => 3 | .und => 4

/-- The place of a general register in the register file. -/
def GReg.idx (g : GReg) : Fin 30 :=
  match g with
  | .low n => ⟨n.val, by omega⟩
  | .mid false n => ⟨8 + n.val, by omega⟩
  | .mid true n => ⟨13 + n.val, by omega⟩
  | .sp b => ⟨18 + b.idx.val, by omega⟩
  | .lr b => ⟨24 + b.idx.val, by omega⟩

/-- A saved status register as a word: bits 27:8 read as zero (10 R109, R113). -/
def Psr.toWord (p : Psr) : Word :=
  BitVec.ofBool p.n ++ BitVec.ofBool p.z ++ BitVec.ofBool p.c ++ BitVec.ofBool p.v ++ 0#20 ++ BitVec.ofBool p.i ++
    BitVec.ofBool p.f ++ BitVec.ofBool p.t ++ p.m

/-- The status a word holds: bits 27:8 are ignored (10 R109, R113). -/
def Psr.ofWord (w : Word) : Psr where
  n := w.getLsbD 31
  z := w.getLsbD 30
  c := w.getLsbD 29
  v := w.getLsbD 28
  i := w.getLsbD 7
  f := w.getLsbD 6
  t := w.getLsbD 5
  m := w.extractLsb' 0 5

/-- The current status as a saved one, with the same bits. -/
def Cpsr.toPsr (c : Cpsr) : Psr where
  n := c.n
  z := c.z
  c := c.c
  v := c.v
  i := c.i
  f := c.f
  t := c.t
  m := c.mode.bits

/-- The saved status as a current one, if its mode field is legal (10 R112). -/
def Psr.toCpsr? (p : Psr) : Option Cpsr :=
  match Mode.ofBits? p.m with
  | none => none
  | some mode => some { n := p.n, z := p.z, c := p.c, v := p.v, i := p.i, f := p.f, t := p.t, mode := mode }

/-- The CPSR as a word (10 R109). -/
def Cpsr.toWord (c : Cpsr) : Word := c.toPsr.toWord

end Sys2Proof.Machine
end

