-- ==== Sys2Proof/Machine/Reference.lean ====
section
/-! DEFINITION. The reference values of the parameters (00 R8), the reference BIOS image (70 R1105, R1106), the register
values of reset (10 R160, R161) and the constants of the picture processor (61 R1000). -/

namespace Sys2Proof.Machine

/-- The four bytes of a word at an offset, little-endian (20 R210). -/
def wordCells (off : Nat) (w : Word) : List Host.Cell :=
  [(off, w.extractLsb' 0 8), (off + 1, w.extractLsb' 8 8), (off + 2, w.extractLsb' 16 8), (off + 3, w.extractLsb' 24 8)]

/-- The IRQ stub of the reference BIOS image: seven words (70 R1106; log 13). -/
def referenceStub : List (Nat × Word) := [
  (0x018, 0xEA000042),   -- B 0x128
  (0x128, 0xE92D500F),   -- STMFD SP!, {R0-R3, R12, LR}
  (0x12C, 0xE3A00301),   -- MOV R0, #0x04000000
  (0x130, 0xE28FE000),   -- ADD LR, PC, #0
  (0x134, 0xE510F004),   -- LDR PC, [R0, #-4]
  (0x138, 0xE8BD500F),   -- LDMFD SP!, {R0-R3, R12, LR}
  (0x13C, 0xE25EF004)]   -- SUBS PC, LR, #4

/-- The reference `BIOS_IMAGE`: zeros but for the stub (70 R1105). -/
def referenceBios : List Host.Cell :=
  (referenceStub.flatMap fun e => wordCells e.1 e.2).filter fun e => e.2 ≠ 0

/-- The reference value of every parameter (00 R8). -/
def referenceParams : Params where
  hleInstalled := true
  bios := referenceBios
  unmappedRead := []
  cyc := .fixed 0
  haltExtra := 0
  irqExtra := 0
  hleExtra := []
  stopWakeMask := 0x3080
  extIrq := []
  ppuBatchExtra := 0

/-- The general registers after reset: zero but for the stack pointers of User/System, IRQ and Supervisor mode
(10 R160). -/
def resetRegs : Vector Word 30 :=
  (((Vector.replicate 30 0).set (GReg.sp .usr).idx 0x03007F00).set (GReg.sp .irq).idx 0x03007FA0).set
    (GReg.sp .svc).idx 0x03007FE0

/-- The entry point after reset, the first byte of cartridge ROM (10 R160, 70 R1101). -/
def resetPc : Word := 0x08000000

/-- CPSR after reset: 0x0000001F, System mode in ARM state, interrupts enabled (10 R161). -/
def resetCpsr : Cpsr where
  n := false
  z := false
  c := false
  v := false
  i := false
  f := false
  t := false
  mode := .sys

/-- An SPSR after reset: 0x00000000 (10 R161). -/
def resetSpsr : Psr where
  n := false
  z := false
  c := false
  v := false
  i := false
  f := false
  t := false
  m := 0

/-- `LINE_CYC` (61 R1000). -/
def lineCyc : Nat := 1232

/-- `HBLANK_AT` (61 R1000). -/
def hblankAt : Nat := 960

/-- `VISIBLE` (61 R1000). -/
def visibleLines : Nat := 160

/-- `LINES` (61 R1000). -/
def totalLines : Nat := 228

/-- Pixels in a line (10 R148). -/
def lineWidth : Nat := 240

/-- A line of the framebuffer that nothing has rendered: every pixel 0x00000000 (10 R164). -/
def blankRow : List Word := List.replicate lineWidth 0

/-- The vector of the IRQ exception (60 R920). -/
def irqVector : Word := 0x00000018

/-- The vector of the SWI exception (60 R925). -/
def swiVector : Word := 0x00000008

end Sys2Proof.Machine
end

