-- ==== Sys2Proof/Machine/State.lean ====
section
/-! DEFINITION. The state of the machine as plain data, its reset value, and the reasons a step can stop. INVENTORY.md lists
every field with the rule that names it. -/

namespace Sys2Proof.Machine

/-- Which system call halted the CPU (10 R120, R121). -/
inductive WaitKind where
  | none | halt | intrWait
  deriving DecidableEq, Repr

/-- The interrupt controller (10 R130, R131). IE and IF keep bits 13:0. -/
structure IntController where
  ie : BitVec 14
  iff : BitVec 14
  ime : Bool
  shadow : Half
  deriving DecidableEq, Repr

/-- DISPSTAT (10 R142): three flags, three interrupt enables and the VCount setting. Bits 7:6 read as zero. -/
structure DispStat where
  vblank : Bool
  hblank : Bool
  vmatch : Bool
  vblankIrq : Bool
  hblankIrq : Bool
  vcountIrq : Bool
  lyc : BitVec 8
  deriving DecidableEq, Repr

/-- The registers of one background (10 R144, R145). -/
structure Bg where
  cnt : Half
  hofs : BitVec 9
  vofs : BitVec 9
  deriving DecidableEq, Repr

/-- A framebuffer: the rows rendered, a canonical sparse list whose default is the row of zeros (10 R148; log 15). -/
abbrev Frame := List (Nat × List Word)

/-- The picture processor's registers and internal state (10 R140 to R148). -/
structure Ppu where
  dispcnt : Half
  dispstat : DispStat
  bg : Vector Bg 4
  line : Nat
  lineCycle : Nat
  hblankDone : Bool
  frameReady : Bool
  fb : Frame
  deriving DecidableEq, Repr

/-- The cartridge (20 R214; log 5): the ROM's length, and the state of a collaborator other than the reference one,
where such a one is installed. The reference collaborator's ROM and SRAM bytes are in `State.mem`. -/
structure Cart where
  romLength : Nat
  collaborator : Option Nat
  deriving DecidableEq, Repr

/-- The machine stops with a fault. Every constructor but the last is a tag of spec/93 section 1, raised where an
instruction's rule says UNPREDICTABLE (00 R12, 60 R903); each is safe: the model gives the behaviour no meaning
where the chip does something. -/
inductive Fault where
  /-- A CPSR write or a PSR restore would put an illegal mode in CPSR[4:0] (10 R112, R116). Safe. -/
  | invalidMode
  /-- A PSR restore in User or System mode (10 R116). Safe. -/
  | noSpsrRestore
  /-- MRS or MSR naming the SPSR in User or System mode (40 R431, R433). Safe. -/
  | noSpsr
  /-- MSR that would change T (40 R432). Safe. -/
  | msrTChange
  /-- MSR register form with Rm = 15 (40 R432). Safe. -/
  | msrR15
  /-- MRS with Rd = 15 (40 R431). Safe. -/
  | mrsR15
  /-- A register-specified shift with R15 in a register field it uses (40 R407; log 12). Safe. -/
  | dpRegshiftR15
  /-- A multiply naming R15 (41 R456). Safe. -/
  | mulR15
  /-- MUL or MLA with Rd = Rm; Thumb MUL with Rd = Rs (41 R456, 44 R674). Safe. -/
  | mulRdEqRm
  /-- A long multiply with RdHi = RdLo, RdHi = Rm or RdLo = Rm (41 R456). Safe. -/
  | mullRegOverlap
  /-- A transfer with register offset Rm = 15 (42 R500, R520). Safe. -/
  | ldstRmR15
  /-- A transfer with write-back and Rn = 15 (42 R500; log 14). Safe. -/
  | ldstWbR15
  /-- A load with write-back and Rn = Rd (42 R501). Safe. -/
  | ldWbRnEqRd
  /-- LDRB with Rd = 15 (42 R504). Safe. -/
  | ldrbR15
  /-- STRB with Rd = 15 (42 R505). Safe. -/
  | strbR15
  /-- A halfword or signed transfer with P = 0 and W = 1 (42 R520). Safe. -/
  | hwPostWriteback
  /-- A halfword or signed transfer with Rd = 15 (42 R520). Safe. -/
  | hwR15
  /-- A halfword transfer at an odd address (42 R520, 45). Safe. -/
  | hwMisaligned
  /-- A block transfer with an empty list (42 R530, 45). Safe. -/
  | ldmStmEmptyList
  /-- LDM or STM with Rn = 15 (42 R530). Safe. -/
  | ldmStmRnR15
  /-- ARM LDM with W = 1 and Rn in the list (42 R531). Safe. -/
  | ldmWbRnInList
  /-- A user-bank transfer with W = 1 (42 R540). Safe. -/
  | userBankWriteback
  /-- A user-bank transfer in User or System mode (42 R540). Safe. -/
  | userBankInUsrSys
  /-- SWP or SWPB naming R15 (42 R560). Safe. -/
  | swpR15
  /-- SWP or SWPB with Rn = Rm or Rn = Rd (42 R560). Safe. -/
  | swpRnOverlap
  /-- BX to ARM state at a target with bit 1 set (43 R602, 44 R683). Safe. -/
  | bxArmMisaligned
  /-- Thumb BX with H1 = 1 (44 R683). Safe. -/
  | thumbBxH1
  /-- Thumb format 5 ADD, CMP or MOV with H1 = H2 = 0 (44 R684). Safe. -/
  | thumbHiLoLo
  /-- A step of a CPU that has already faulted: no step exists (60 R900, R903). Safe. -/
  | faultedCpu
  deriving DecidableEq, Repr

/-- No meaning for the instruction. No arm of `exec` gives one in this model. -/
inductive Refusal where
  /-- The instruction of that mnemonic is not modelled. Safe. -/
  | notModelled (mnemonic : String)
  deriving DecidableEq, Repr

/-- The events of the host log (60 R902). -/
inductive Event where
  /-- A decode anomaly at `pc` (43 R620). -/
  | anomaly (pc word : Word)
  /-- A system call without a routine (47 R802). -/
  | unimplementedSyscall (n : Byte)
  /-- A line rendered in BG mode 2, 6 or 7 (61 R1063). -/
  | unimplementedFeature (mode : Nat)
  /-- A step that ended in a fault; the tag is one of spec/93, never `faultedCpu` (60 R903; log 10). -/
  | fault (tag : Fault)
  deriving DecidableEq, Repr

/-- The state of the machine. -/
structure State where
  /-- The thirty general registers other than R15, by `GReg.idx` (10 R101). -/
  regs : Vector Word 30
  /-- The address of the next instruction (10 R106). -/
  pc : Word
  /-- The current status register (10 R109). -/
  cpsr : Cpsr
  /-- The saved status registers, by `Exc.idx` (10 R114). -/
  spsr : Vector Psr 5
  /-- The CPU waits in Halt or IntrWait (10 R121). -/
  halted : Bool
  /-- The CPU waits in Stop (10 R122). -/
  stopped : Bool
  /-- A step ended in a fault (10 R120, 60 R903). -/
  faulted : Bool
  /-- Which call halted it (10 R121). -/
  waitKind : WaitKind
  /-- The mask of IntrWait (10 R121). -/
  waitMask : Half
  /-- Cycles of all steps, 64 bits (10 R123). -/
  cycleCount : BitVec 64
  /-- Instruction steps, 64 bits (10 R123). -/
  instrCount : BitVec 64
  /-- The interrupt controller (10 R130). -/
  ic : IntController
  /-- The picture processor (10 R140 to R148). -/
  ppu : Ppu
  /-- Every byte that can change and is not zero: EWRAM, IWRAM, IO flat storage, Palette, VRAM, OAM, and the
  reference cartridge's ROM and SRAM, by the key `Place` gives (10 R150; log 6). -/
  mem : List Host.Cell
  /-- The cartridge (20 R214). -/
  cart : Cart
  /-- The parameters (00 R8; log 1). -/
  params : Params
  /-- Cycles stepped and not yet given to `advance` (60 R962; log 7). -/
  pendingCycles : Nat
  /-- The host's event log, newest first (60 R902; log 8). -/
  log : List Event
  /-- How many free values have been drawn (00 R12; log 9). -/
  freeIdx : Nat
  /-- The host's frame callback, as a handle (60 R963; log 15). -/
  callback : Option Nat
  /-- The calls made of a frame callback, newest first: the handle and the frame (60 R963; log 15). -/
  delivered : List (Nat × Frame)
  deriving DecidableEq, Repr

/-- The interrupt controller after reset (10 R163). -/
def IntController.reset : IntController where
  ie := 0
  iff := 0
  ime := false
  shadow := 0

/-- DISPSTAT after reset (10 R164). -/
def DispStat.reset : DispStat where
  vblank := false
  hblank := false
  vmatch := false
  vblankIrq := false
  hblankIrq := false
  vcountIrq := false
  lyc := 0

/-- A background's registers after reset (10 R164). -/
def Bg.reset : Bg where
  cnt := 0
  hofs := 0
  vofs := 0

/-- The picture processor after reset (10 R164). -/
def Ppu.reset : Ppu where
  dispcnt := 0
  dispstat := .reset
  bg := Vector.replicate 4 .reset
  line := 0
  lineCycle := 0
  hblankDone := false
  frameReady := false
  fb := []

/-- The machine right after reset (10 R160 to R165, 70 R1103), with the reference parameters and no cartridge inserted: the
host loads a cartridge before emulation starts (60 R960; log 16). -/
def State.reset : State where
  regs := resetRegs
  pc := resetPc
  cpsr := resetCpsr
  spsr := Vector.replicate 5 resetSpsr
  halted := false
  stopped := false
  faulted := false
  waitKind := .none
  waitMask := 0
  cycleCount := 0
  instrCount := 0
  ic := .reset
  ppu := .reset
  mem := []
  cart := { romLength := 0, collaborator := none }
  params := referenceParams
  pendingCycles := 0
  log := []
  freeIdx := 0
  callback := none
  delivered := []

end Sys2Proof.Machine
end

