-- ==== Sys2Proof/Machine/Ops.lean ====
section
/-! DEFINITION. The shared operations over registers, status, memory, interrupts and exceptions. Every meaning reads and writes
the state through these. -/

namespace Sys2Proof.Machine

/-! ### Registers (10 R100 to R108) -/

/-- A physical general register. -/
def State.greg (s : State) (g : GReg) : Word := s.regs[g.idx]

/-- Writes a physical general register. -/
def State.setGreg (s : State) (g : GReg) (v : Word) : State := { s with regs := s.regs.set g.idx v }

/-- Sets the address of the next instruction. -/
def State.setPc (s : State) (v : Word) : State := { s with pc := v }

/-- The PC advances by the instruction length, modulo 2^32 (10 R107). -/
def State.advancePc (s : State) (len : Word) : State := s.setPc (s.pc + len)

/-- Register `n` of mode `m`'s bank, R15 reading as `pc + off` (10 R103, R106). -/
def State.regOf (s : State) (m : Mode) (off : Word) (n : Reg) : Word :=
  match bank m n with
  | .gen g => s.greg g
  | .pc => s.pc + off

/-- `R[n]` in an ARM instruction: R15 reads pc + 8 (10 R106; log 17). -/
def State.regArm (s : State) (n : Reg) : Word := s.regOf s.cpsr.mode 8 n

/-- `R[n]` in a Thumb instruction: R15 reads pc + 4 (10 R106; log 17). -/
def State.regThumb (s : State) (n : Reg) : Word := s.regOf s.cpsr.mode 4 n

/-- The value an ARM store stores for a register: R15 stores pc + 12 (42 R503). -/
def State.regStore (s : State) (n : Reg) : Word := s.regOf s.cpsr.mode 12 n

/-- Writes register `n` of mode `m`'s bank; the callers have excluded R15, which is not written. -/
def State.setRegOf (s : State) (m : Mode) (n : Reg) (v : Word) : State :=
  match bank m n with
  | .gen g => s.setGreg g v
  | .pc => s

/-- Writes register `n`, other than R15, of the current bank. -/
def State.setReg (s : State) (n : Reg) (v : Word) : State := s.setRegOf s.cpsr.mode n v

/-- The end of an ARM instruction that writes `R[rd]`: R15 branches to the aligned value, another register is written
and the PC advances (10 R107). -/
def State.writeArm (s : State) (rd : Reg) (v : Word) : State :=
  match bank s.cpsr.mode rd with
  | .gen g => (s.setGreg g v).advancePc 4
  | .pc => s.setPc (align4 v)

/-- The end of a Thumb instruction that writes `R[rd]` (10 R107). -/
def State.writeThumb (s : State) (rd : Reg) (v : Word) : State :=
  match bank s.cpsr.mode rd with
  | .gen g => (s.setGreg g v).advancePc 2
  | .pc => s.setPc (align2 v)

/-- A low register as a general register number. -/
def loReg (r : LoReg) : Reg := ⟨r.val, by omega⟩

/-- A low register's value. -/
def State.lo (s : State) (r : LoReg) : Word := s.greg (.low r)

/-! ### Status registers (10 R109 to R117) -/

/-- Sets the current status register; a change of mode changes the visible bank at once (10 R117). -/
def State.setCpsr (s : State) (c : Cpsr) : State := { s with cpsr := c }

/-- The SPSR of an exception mode (10 R114). -/
def State.spsrOf (s : State) (e : Exc) : Psr := s.spsr[e.idx]

/-- Writes the SPSR of an exception mode. -/
def State.setSpsr (s : State) (e : Exc) (p : Psr) : State := { s with spsr := s.spsr.set e.idx p }

/-! ### Free values (00 R12; log 9) -/

/-- One more free value has been drawn. -/
def State.drawn (s : State) : State := { s with freeIdx := s.freeIdx + 1 }

/-- The next free word of a tag. -/
def State.any32 (s : State) (tag : AnyTag) : Word := Config.any32 tag s.freeIdx

/-- The next free bit of a tag. -/
def State.any1 (s : State) (tag : AnyTag) : Bool := Config.any1 tag s.freeIdx

/-- An event for the host log (60 R902; log 8). -/
def State.report (s : State) (e : Event) : State := { s with log := e :: s.log }

/-! ### The address space (20 R200 to R205, R230 to R237) -/

/-- The regions an address's top byte chooses (20 R201). -/
inductive Region where
  | bios | unmapped | ewram | iwram | io | palette | vram | oam | cartridge
  deriving DecidableEq, Repr

/-- The intercepted registers (20 R230). -/
inductive DevReg where
  | dispcnt | dispstat | vcount
  | bgcnt (n : Fin 4)
  | bghofs (n : Fin 4)
  | bgvofs (n : Fin 4)
  | ie | iff | ime | shadow
  deriving DecidableEq, Repr

/-- Where a byte address leads. -/
inductive Place where
  | bios (off : Nat)                      -- the BIOS image at an offset
  | unmapped                              -- top byte 0x01
  | dev (r : DevReg) (lane1 : Bool)       -- a byte lane of an intercepted register
  | ram (key : Nat)                       -- a byte of `State.mem` that a store can change
  | rom (idx : Nat)                       -- the reference cartridge's ROM
  | void                                  -- the reference cartridge, top byte 0x10 and above
  | external (a : Word)                   -- a cartridge collaborator other than the reference one
  deriving DecidableEq, Repr

/-- The region of an address (20 R201). -/
def regionOf (a : Word) : Region :=
  match (a.extractLsb' 24 8).toNat with
  | 0x00 => .bios
  | 0x01 => .unmapped
  | 0x02 => .ewram
  | 0x03 => .iwram
  | 0x04 => .io
  | 0x05 => .palette
  | 0x06 => .vram
  | 0x07 => .oam
  | _ => .cartridge

/-- The size of a region in bytes (20 R201); the regions without one have 1. -/
def Region.size (r : Region) : Nat :=
  match r with
  | .bios => 0x4000
  | .ewram => 0x40000
  | .iwram => 0x8000
  | .io => 0x400
  | .palette => 0x400
  | .vram => 0x18000
  | .oam => 0x400
  | .unmapped => 1
  | .cartridge => 1

/-- The key of a region's first byte in `State.mem` (log 6). -/
def Region.base (r : Region) : Nat :=
  match r with
  | .bios => 0
  | .unmapped => 0x01000000
  | .ewram => 0x02000000
  | .iwram => 0x03000000
  | .io => 0x04000000
  | .palette => 0x05000000
  | .vram => 0x06000000
  | .oam => 0x07000000
  | .cartridge => 0x08000000

/-- The key of the reference cartridge's first SRAM byte in `State.mem` (log 6). -/
def sramBase : Nat := 0x0E000000

/-- `off = addr[23:0] mod size` (20 R204). -/
def offsetOf (a : Word) : Nat := (a.extractLsb' 0 24).toNat % (regionOf a).size

/-- The intercepted register of halfword `h` of the IO region, if there is one (20 R230). -/
def ioDevice (h : Nat) : Option DevReg :=
  match h with
  | 0x000 => some .dispcnt
  | 0x002 => some .dispstat
  | 0x003 => some .vcount
  | 0x004 => some (.bgcnt 0)
  | 0x005 => some (.bgcnt 1)
  | 0x006 => some (.bgcnt 2)
  | 0x007 => some (.bgcnt 3)
  | 0x008 => some (.bghofs 0)
  | 0x009 => some (.bgvofs 0)
  | 0x00A => some (.bghofs 1)
  | 0x00B => some (.bgvofs 1)
  | 0x00C => some (.bghofs 2)
  | 0x00D => some (.bgvofs 2)
  | 0x00E => some (.bghofs 3)
  | 0x00F => some (.bgvofs 3)
  | 0x100 => some .ie
  | 0x101 => some .iff
  | 0x104 => some .ime
  | _ => none

/-- The intercepted register of halfword `h` of a region, after mirroring (20 R230, R231). -/
def deviceAt (r : Region) (h : Nat) : Option DevReg :=
  match r with
  | .io => ioDevice h
  | .iwram => if h = 0x3FFC then some .shadow else none
  | .bios => none
  | .unmapped => none
  | .ewram => none
  | .palette => none
  | .vram => none
  | .oam => none
  | .cartridge => none

/-- Where an address of the reference cartridge leads (20 R214). -/
def cartPlace (a : Word) : Place :=
  if (a.extractLsb' 24 8).toNat ≤ 0x0D then .rom (a &&& 0x01FFFFFF).toNat
  else if (a.extractLsb' 24 8).toNat ≤ 0x0F then .ram (sramBase + (a &&& 0xFFFF).toNat)
  else .void

/-- Where offset `off` of a region with storage leads (20 R220, R230). -/
def storagePlace (r : Region) (off : Nat) : Place :=
  match deviceAt r (off / 2) with
  | some d => .dev d (off % 2 = 1)
  | none => .ram (r.base + off)

/-- Where a byte address leads: the decoding of 20 R220 and R221. `external` says that the cartridge
collaborator is not the reference one. -/
def placeOf (external : Bool) (a : Word) : Place :=
  match regionOf a with
  | .bios => .bios (offsetOf a)
  | .unmapped => .unmapped
  | .cartridge => if external then .external a else cartPlace a
  | .ewram => storagePlace .ewram (offsetOf a)
  | .iwram => storagePlace .iwram (offsetOf a)
  | .io => storagePlace .io (offsetOf a)
  | .palette => storagePlace .palette (offsetOf a)
  | .vram => storagePlace .vram (offsetOf a)
  | .oam => storagePlace .oam (offsetOf a)

/-- Where a byte address leads in a state. -/
def State.place (s : State) (a : Word) : Place := placeOf s.cart.collaborator.isSome a

/-! ### Intercepted registers (20 R233; 10 R131, R141 to R145) -/

/-- DISPSTAT as a halfword: bits 7:6 read as zero (10 R142). -/
def DispStat.toHalf (d : DispStat) : Half :=
  d.lyc ++ 0b00#2 ++ BitVec.ofBool d.vcountIrq ++ BitVec.ofBool d.hblankIrq ++ BitVec.ofBool d.vblankIrq ++
    BitVec.ofBool d.vmatch ++ BitVec.ofBool d.hblank ++ BitVec.ofBool d.vblank

/-- A write to DISPSTAT reaches bits 15:8 and 5:3 (10 R142). -/
def DispStat.write (d : DispStat) (v : Half) : DispStat :=
  { d with vblankIrq := v.getLsbD 3, hblankIrq := v.getLsbD 4, vcountIrq := v.getLsbD 5, lyc := v.extractLsb' 8 8 }

/-- The read value of an intercepted register (10 R131, R141 to R145). -/
def State.devRead (s : State) (r : DevReg) : Half :=
  match r with
  | .dispcnt => s.ppu.dispcnt
  | .dispstat => s.ppu.dispstat.toHalf
  | .vcount => (BitVec.ofNat 8 s.ppu.line).setWidth 16
  | .bgcnt n => s.ppu.bg[n].cnt
  | .bghofs n => s.ppu.bg[n].hofs.setWidth 16
  | .bgvofs n => s.ppu.bg[n].vofs.setWidth 16
  | .ie => s.ic.ie.setWidth 16
  | .iff => s.ic.iff.setWidth 16
  | .ime => (BitVec.ofBool s.ic.ime).setWidth 16
  | .shadow => s.ic.shadow

/-- Replaces the picture processor. -/
def State.setPpu (s : State) (p : Ppu) : State := { s with ppu := p }

/-- Replaces the interrupt controller. -/
def State.setIc (s : State) (c : IntController) : State := { s with ic := c }

/-- Replaces the registers of background `n`. -/
def State.setBg (s : State) (n : Fin 4) (b : Bg) : State := s.setPpu { s.ppu with bg := s.ppu.bg.set n b }

/-- The write rule of an intercepted register (10 R131, R141 to R145): IF is cleared by ones, VCOUNT ignores writes. -/
def State.devWrite (s : State) (r : DevReg) (v : Half) : State :=
  match r with
  | .dispcnt => s.setPpu { s.ppu with dispcnt := v }
  | .dispstat => s.setPpu { s.ppu with dispstat := s.ppu.dispstat.write v }
  | .vcount => s
  | .bgcnt n => s.setBg n { s.ppu.bg[n] with cnt := v }
  | .bghofs n => s.setBg n { s.ppu.bg[n] with hofs := v.extractLsb' 0 9 }
  | .bgvofs n => s.setBg n { s.ppu.bg[n] with vofs := v.extractLsb' 0 9 }
  | .ie => s.setIc { s.ic with ie := v.extractLsb' 0 14 }
  | .iff => s.setIc { s.ic with iff := s.ic.iff &&& ~~~(v.extractLsb' 0 14) }
  | .ime => s.setIc { s.ic with ime := v.getLsbD 0 }
  | .shadow => s.setIc { s.ic with shadow := v }

/-- What the other lane of a byte write is taken as: the current read value, and 0 for IF (20 R233). -/
def State.otherLane (s : State) (r : DevReg) : Half := if r = .iff then 0 else s.devRead r

/-- A byte write to a lane of an intercepted register (20 R233). -/
def State.devWriteByte (s : State) (r : DevReg) (lane1 : Bool) (b : Byte) : State :=
  s.devWrite r (withLane (s.otherLane r) lane1 b)

/-! ### Memory (20 R210 to R221) -/

/-- The widths of an access (00 R11). -/
inductive Width where
  | b1 | b2 | b4
  deriving DecidableEq, Repr

/-- Bytes of an access. -/
def Width.bytes (w : Width) : Nat :=
  match w with
  | .b1 => 1
  | .b2 => 2
  | .b4 => 4

/-- A byte of `State.mem`: what an unlisted key reads as is 0, the reset value of every such byte (10 R165). -/
def Memory.get (mem : List Host.Cell) (key : Nat) : Byte := Sparse.get 0 mem key

/-- Writes a byte of `State.mem`, keeping the canonical form. -/
def Memory.set (mem : List Host.Cell) (key : Nat) (b : Byte) : List Host.Cell := Sparse.set 0 mem key b

/-- The canonical form of `State.mem`: keys strictly rising, no zero listed. -/
def Memory.wf (mem : List Host.Cell) : Bool := Sparse.wf 0 mem

/-- Replaces the memory. -/
def State.setMem (s : State) (m : List Host.Cell) : State := { s with mem := m }

/-- `UNMAPPED_READ(addr, n)`; `memRead` asks for it at the naturally aligned address (00 R11; 20 R203, R240; log 6). -/
def State.unmappedValue (s : State) (a : Word) (w : Width) : Word :=
  Sparse.get 0 s.params.unmappedRead (8 * a.toNat + w.bytes)

/-- The byte of the ROM of the reference cartridge: 0 at and past its length (20 R214). -/
def State.romByte (s : State) (idx : Nat) : Byte :=
  if idx < s.cart.romLength then Memory.get s.mem (Region.cartridge.base + idx) else 0

/-- `read8` (20 R220). -/
def State.read8 (s : State) (a : Word) : Byte :=
  match s.place a with
  | .bios off => Sparse.get 0 s.params.bios off
  | .unmapped => (s.unmappedValue a .b1).extractLsb' 0 8
  | .dev r lane1 => laneOf (s.devRead r) lane1
  | .ram key => Memory.get s.mem key
  | .rom idx => s.romByte idx
  | .void => 0
  | .external e => Config.cartRead8 (s.cart.collaborator.getD 0) e

/-- `write8` (20 R221): the BIOS, the unmapped byte and the reference ROM ignore writes. -/
def State.write8 (s : State) (a : Word) (b : Byte) : State :=
  match s.place a with
  | .bios _ => s
  | .unmapped => s
  | .dev r lane1 => s.devWriteByte r lane1 b
  | .ram key => s.setMem (Memory.set s.mem key b)
  | .rom _ => s
  | .void => s
  | .external e => { s with cart := { s.cart with collaborator := s.cart.collaborator.map fun st => Config.cartWrite8 st e b } }

/-- The naturally aligned address of an access (20 R211). -/
def alignTo (w : Width) (a : Word) : Word :=
  match w with
  | .b1 => a
  | .b2 => align2 a
  | .b4 => align4 a

/-- `MemRead(addr, n)`, zero-extended: little-endian bytes at the aligned address, but one whole value for top byte 0x01,
at the aligned address too (00 R11; 20 R211, R220, R240). -/
def State.memRead (s : State) (a : Word) (w : Width) : Word :=
  if regionOf a = .unmapped then
    match w with
    | .b1 => zext ((s.unmappedValue a .b1).extractLsb' 0 8)
    | .b2 => zext ((s.unmappedValue (align2 a) .b2).extractLsb' 0 16)
    | .b4 => s.unmappedValue (align4 a) .b4
  else
    match w with
    | .b1 => zext (s.read8 a)
    | .b2 => zext (s.read8 (align2 a + 1) ++ s.read8 (align2 a))
    | .b4 => s.read8 (align4 a + 3) ++ s.read8 (align4 a + 2) ++ s.read8 (align4 a + 1) ++ s.read8 (align4 a)

/-- `MemWrite(addr, n, v)`: the low bytes of `v` at the aligned address, ascending (20 R211). -/
def State.memWrite (s : State) (a : Word) (w : Width) (v : Word) : State :=
  match w with
  | .b1 => s.write8 a (byteOf v 0)
  | .b2 => (s.write8 (align2 a) (byteOf v 0)).write8 (align2 a + 1) (byteOf v 1)
  | .b4 =>
    (((s.write8 (align4 a) (byteOf v 0)).write8 (align4 a + 1) (byteOf v 1)).write8 (align4 a + 2) (byteOf v 2)).write8
      (align4 a + 3) (byteOf v 3)

/-- A word load as LDR and SWP make it: a misaligned address rotates the aligned word (20 R240, 42 R502). -/
def State.loadWord (s : State) (a : Word) : Word := rorWord (s.memRead a .b4) (8 * (a.extractLsb' 0 2).toNat)

/-- Stores words at ascending addresses. -/
def State.storeWords (s : State) (a : Word) (vs : List Word) : State :=
  match vs with
  | [] => s
  | v :: rest => (s.memWrite a .b4 v).storeWords (a + 4) rest

/-- Loads registers of mode `m`'s bank, other than R15, from words at ascending addresses. -/
def State.loadRegs (s : State) (m : Mode) (a : Word) (regs : List Reg) : State :=
  match regs with
  | [] => s
  | r :: rest => (s.setRegOf m r (s.memRead a .b4)).loadRegs m (a + 4) rest

/-! ### Interrupts (60 R910 to R913) -/

/-- `request(b)`: lost unless IE[b] and IME are set; sets IF[b] and SHADOW[b] together (60 R911; 10 R132). -/
def State.request (s : State) (b : Nat) : State :=
  if s.ic.ie.getLsbD b && s.ic.ime then
    s.setIc { s.ic with iff := s.ic.iff ||| (1#14 <<< b), shadow := s.ic.shadow ||| (1#16 <<< b) }
  else s

/-- `pendingInterrupt()`: the lowest bit set in IE AND IF while IME is set (60 R912). -/
def State.pendingInterrupt (s : State) : Option Nat :=
  if s.ic.ime then (List.range 14).find? fun b => (s.ic.ie &&& s.ic.iff).getLsbD b else none

/-! ### Exceptions (60 R920, R925; 10 R116) -/

/-- The mode of an exception. -/
def Exc.mode (e : Exc) : Mode :=
  match e with
  | .fiq => .fiq
  | .irq => .irq
  | .svc => .svc
  | .abt => .abt
  | .und => .und

/-- The bank of R13 and R14 of an exception mode. -/
def Exc.bank (e : Exc) : Bank :=
  match e with
  | .fiq => .fiq
  | .irq => .irq
  | .svc => .svc
  | .abt => .abt
  | .und => .und

/-- The status on exception entry: the exception's mode, ARM state, IRQs disabled; F and the flags unchanged
(60 R920, R925). -/
def excCpsr (e : Exc) (c : Cpsr) : Cpsr := { c with mode := e.mode, t := false, i := true }

/-- Taking an exception: the status goes to the mode's SPSR, the return address to its R14, and the PC to the vector
(60 R920, R925). -/
def State.takeException (s : State) (e : Exc) (ret vector : Word) : State :=
  (((s.setSpsr e s.cpsr.toPsr).setCpsr (excCpsr e s.cpsr)).setGreg (.lr e.bank) ret).setPc vector

/-- `irqEntry()`: the return address is pc + 4 in either state (60 R920). -/
def State.irqEntry (s : State) : State := s.takeException .irq (s.pc + 4) irqVector

/-- `swiEntry()`: the return address is that of the instruction after the SWI (60 R925). -/
def State.swiEntry (s : State) : State := s.takeException .svc (s.pc + if s.cpsr.t then 2 else 4) swiVector

/-- A PSR restore and the PC write of the same instruction: the target is aligned by the restored T (10 R116). -/
def State.psrRestore (s : State) (target : Word) : Host.Outcome State Fault Refusal :=
  match s.cpsr.mode.exc? with
  | none => .fault .noSpsrRestore
  | some e =>
    match (s.spsrOf e).toCpsr? with
    | none => .fault .invalidMode
    | some c => .next ((s.setCpsr c).setPc (if c.t then align2 target else align4 target))

/-- A decode anomaly: nothing but the PC advance and the event (43 R620). -/
def State.anomaly (s : State) (len word : Word) : State := (s.report (.anomaly s.pc word)).advancePc len

end Sys2Proof.Machine
end

