-- ==== Sys2Proof/Syntax.lean ====
section
/-! DEFINITION. The instruction set as syntax: one constructor per row of spec/opcode_table.json, in the table's order
(88 ARM rows, then 68 Thumb rows), with the operands the encoding of 30 R301 and R307 gives the row. -/

namespace Sys2Proof

/-- The condition of an ARM instruction and of a Thumb conditional branch, in the order of their codes (30 R304). -/
inductive Cond where
  | eq | ne | cs | cc | mi | pl | vs | vc | hi | ls | ge | lt | gt | le | al | nv
  deriving DecidableEq, Repr

/-- The shift types, in the order of their codes (30 R302). -/
inductive ShiftType where
  | lsl | lsr | asr | ror
  deriving DecidableEq, Repr

/-- The offset of a single data transfer (30 R312): a 12-bit immediate (I = 0), or Rm shifted by an
immediate (I = 1). -/
inductive Offset where
  | imm (v : BitVec 12)
  | reg (shImm : BitVec 5) (sh : ShiftType) (rm : Reg)
  deriving DecidableEq, Repr

/-- The offset of a halfword or signed transfer (30 R312): `immH:immL` (I = 1), or Rm unshifted (I = 0). -/
inductive HalfOffset where
  | imm (v : BitVec 8)
  | reg (rm : Reg)
  deriving DecidableEq, Repr

/-- The instructions. A field's name is the table's, in lower case: `c` the condition, `sf` the S bit of data
processing and multiplies, `sb` the S bit of a block transfer, `r` the R bit of a PSR transfer, `sh` and `shImm` the
shift. The register fields of the Thumb high forms are H1:Rd and H2:Rs. A decode anomaly keeps its whole word,
which its event records (60 R902). Fields the spec says are ignored (Rn of MUL, MOV and MVN, Rd of TST, TEQ, CMP, CMN and
of Thumb BX: 30 R323) are kept and no meaning reads them. -/
inductive Instr where
  | mul (c : Cond) (sf : Bool) (rd rn rs rm : Reg)  -- MUL (R450)
  | mla (c : Cond) (sf : Bool) (rd rn rs rm : Reg)  -- MLA (R451)
  | umull (c : Cond) (sf : Bool) (rdHi rdLo rs rm : Reg)  -- UMULL (R452)
  | umlal (c : Cond) (sf : Bool) (rdHi rdLo rs rm : Reg)  -- UMLAL (R453)
  | smull (c : Cond) (sf : Bool) (rdHi rdLo rs rm : Reg)  -- SMULL (R454)
  | smlal (c : Cond) (sf : Bool) (rdHi rdLo rs rm : Reg)  -- SMLAL (R455)
  | swp (c : Cond) (rn rd rm : Reg)  -- SWP (R560)
  | swpb (c : Cond) (rn rd rm : Reg)  -- SWPB (R561)
  | undMulSwap (word : Word)  -- UNDEFINED (R620)
  | ldrh (c : Cond) (p u w : Bool) (rn rd : Reg) (off : HalfOffset)  -- LDRH (R521)
  | ldrsb (c : Cond) (p u w : Bool) (rn rd : Reg) (off : HalfOffset)  -- LDRSB (R523)
  | ldrsh (c : Cond) (p u w : Bool) (rn rd : Reg) (off : HalfOffset)  -- LDRSH (R524)
  | strh (c : Cond) (p u w : Bool) (rn rd : Reg) (off : HalfOffset)  -- STRH (R522)
  | undHalfword (word : Word)  -- UNDEFINED (R620)
  | mrs (c : Cond) (r : Bool) (rd : Reg)  -- MRS (R431)
  | msrReg (c : Cond) (r : Bool) (mask : BitVec 4) (rm : Reg)  -- MSR_reg (R432)
  | bx (c : Cond) (rm : Reg)  -- BX (R602)
  | undPsr (word : Word)  -- UNDEFINED (R620)
  | msrImm (c : Cond) (r : Bool) (mask rot : BitVec 4) (imm8 : BitVec 8)  -- MSR_imm (R434)
  | undMsrImm (word : Word)  -- UNDEFINED (R620)
  | andImm (c : Cond) (sf : Bool) (rn rd : Reg) (rot : BitVec 4) (imm8 : BitVec 8)  -- AND_imm (R413)
  | andRsi (c : Cond) (sf : Bool) (rn rd : Reg) (shImm : BitVec 5) (sh : ShiftType) (rm : Reg)  -- AND_rsi (R413)
  | andRsr (c : Cond) (sf : Bool) (rn rd rs : Reg) (sh : ShiftType) (rm : Reg)  -- AND_rsr (R413)
  | eorImm (c : Cond) (sf : Bool) (rn rd : Reg) (rot : BitVec 4) (imm8 : BitVec 8)  -- EOR_imm (R414)
  | eorRsi (c : Cond) (sf : Bool) (rn rd : Reg) (shImm : BitVec 5) (sh : ShiftType) (rm : Reg)  -- EOR_rsi (R414)
  | eorRsr (c : Cond) (sf : Bool) (rn rd rs : Reg) (sh : ShiftType) (rm : Reg)  -- EOR_rsr (R414)
  | subImm (c : Cond) (sf : Bool) (rn rd : Reg) (rot : BitVec 4) (imm8 : BitVec 8)  -- SUB_imm (R415)
  | subRsi (c : Cond) (sf : Bool) (rn rd : Reg) (shImm : BitVec 5) (sh : ShiftType) (rm : Reg)  -- SUB_rsi (R415)
  | subRsr (c : Cond) (sf : Bool) (rn rd rs : Reg) (sh : ShiftType) (rm : Reg)  -- SUB_rsr (R415)
  | rsbImm (c : Cond) (sf : Bool) (rn rd : Reg) (rot : BitVec 4) (imm8 : BitVec 8)  -- RSB_imm (R416)
  | rsbRsi (c : Cond) (sf : Bool) (rn rd : Reg) (shImm : BitVec 5) (sh : ShiftType) (rm : Reg)  -- RSB_rsi (R416)
  | rsbRsr (c : Cond) (sf : Bool) (rn rd rs : Reg) (sh : ShiftType) (rm : Reg)  -- RSB_rsr (R416)
  | addImm (c : Cond) (sf : Bool) (rn rd : Reg) (rot : BitVec 4) (imm8 : BitVec 8)  -- ADD_imm (R417)
  | addRsi (c : Cond) (sf : Bool) (rn rd : Reg) (shImm : BitVec 5) (sh : ShiftType) (rm : Reg)  -- ADD_rsi (R417)
  | addRsr (c : Cond) (sf : Bool) (rn rd rs : Reg) (sh : ShiftType) (rm : Reg)  -- ADD_rsr (R417)
  | adcImm (c : Cond) (sf : Bool) (rn rd : Reg) (rot : BitVec 4) (imm8 : BitVec 8)  -- ADC_imm (R418)
  | adcRsi (c : Cond) (sf : Bool) (rn rd : Reg) (shImm : BitVec 5) (sh : ShiftType) (rm : Reg)  -- ADC_rsi (R418)
  | adcRsr (c : Cond) (sf : Bool) (rn rd rs : Reg) (sh : ShiftType) (rm : Reg)  -- ADC_rsr (R418)
  | sbcImm (c : Cond) (sf : Bool) (rn rd : Reg) (rot : BitVec 4) (imm8 : BitVec 8)  -- SBC_imm (R419)
  | sbcRsi (c : Cond) (sf : Bool) (rn rd : Reg) (shImm : BitVec 5) (sh : ShiftType) (rm : Reg)  -- SBC_rsi (R419)
  | sbcRsr (c : Cond) (sf : Bool) (rn rd rs : Reg) (sh : ShiftType) (rm : Reg)  -- SBC_rsr (R419)
  | rscImm (c : Cond) (sf : Bool) (rn rd : Reg) (rot : BitVec 4) (imm8 : BitVec 8)  -- RSC_imm (R420)
  | rscRsi (c : Cond) (sf : Bool) (rn rd : Reg) (shImm : BitVec 5) (sh : ShiftType) (rm : Reg)  -- RSC_rsi (R420)
  | rscRsr (c : Cond) (sf : Bool) (rn rd rs : Reg) (sh : ShiftType) (rm : Reg)  -- RSC_rsr (R420)
  | tstImm (c : Cond) (rn rd : Reg) (rot : BitVec 4) (imm8 : BitVec 8)  -- TST_imm (R421)
  | tstRsi (c : Cond) (rn rd : Reg) (shImm : BitVec 5) (sh : ShiftType) (rm : Reg)  -- TST_rsi (R421)
  | tstRsr (c : Cond) (rn rd rs : Reg) (sh : ShiftType) (rm : Reg)  -- TST_rsr (R421)
  | teqImm (c : Cond) (rn rd : Reg) (rot : BitVec 4) (imm8 : BitVec 8)  -- TEQ_imm (R422)
  | teqRsi (c : Cond) (rn rd : Reg) (shImm : BitVec 5) (sh : ShiftType) (rm : Reg)  -- TEQ_rsi (R422)
  | teqRsr (c : Cond) (rn rd rs : Reg) (sh : ShiftType) (rm : Reg)  -- TEQ_rsr (R422)
  | cmpImm (c : Cond) (rn rd : Reg) (rot : BitVec 4) (imm8 : BitVec 8)  -- CMP_imm (R423)
  | cmpRsi (c : Cond) (rn rd : Reg) (shImm : BitVec 5) (sh : ShiftType) (rm : Reg)  -- CMP_rsi (R423)
  | cmpRsr (c : Cond) (rn rd rs : Reg) (sh : ShiftType) (rm : Reg)  -- CMP_rsr (R423)
  | cmnImm (c : Cond) (rn rd : Reg) (rot : BitVec 4) (imm8 : BitVec 8)  -- CMN_imm (R424)
  | cmnRsi (c : Cond) (rn rd : Reg) (shImm : BitVec 5) (sh : ShiftType) (rm : Reg)  -- CMN_rsi (R424)
  | cmnRsr (c : Cond) (rn rd rs : Reg) (sh : ShiftType) (rm : Reg)  -- CMN_rsr (R424)
  | orrImm (c : Cond) (sf : Bool) (rn rd : Reg) (rot : BitVec 4) (imm8 : BitVec 8)  -- ORR_imm (R425)
  | orrRsi (c : Cond) (sf : Bool) (rn rd : Reg) (shImm : BitVec 5) (sh : ShiftType) (rm : Reg)  -- ORR_rsi (R425)
  | orrRsr (c : Cond) (sf : Bool) (rn rd rs : Reg) (sh : ShiftType) (rm : Reg)  -- ORR_rsr (R425)
  | movImm (c : Cond) (sf : Bool) (rn rd : Reg) (rot : BitVec 4) (imm8 : BitVec 8)  -- MOV_imm (R426)
  | movRsi (c : Cond) (sf : Bool) (rn rd : Reg) (shImm : BitVec 5) (sh : ShiftType) (rm : Reg)  -- MOV_rsi (R426)
  | movRsr (c : Cond) (sf : Bool) (rn rd rs : Reg) (sh : ShiftType) (rm : Reg)  -- MOV_rsr (R426)
  | bicImm (c : Cond) (sf : Bool) (rn rd : Reg) (rot : BitVec 4) (imm8 : BitVec 8)  -- BIC_imm (R427)
  | bicRsi (c : Cond) (sf : Bool) (rn rd : Reg) (shImm : BitVec 5) (sh : ShiftType) (rm : Reg)  -- BIC_rsi (R427)
  | bicRsr (c : Cond) (sf : Bool) (rn rd rs : Reg) (sh : ShiftType) (rm : Reg)  -- BIC_rsr (R427)
  | mvnImm (c : Cond) (sf : Bool) (rn rd : Reg) (rot : BitVec 4) (imm8 : BitVec 8)  -- MVN_imm (R428)
  | mvnRsi (c : Cond) (sf : Bool) (rn rd : Reg) (shImm : BitVec 5) (sh : ShiftType) (rm : Reg)  -- MVN_rsi (R428)
  | mvnRsr (c : Cond) (sf : Bool) (rn rd rs : Reg) (sh : ShiftType) (rm : Reg)  -- MVN_rsr (R428)
  | und011 (word : Word)  -- UNDEFINED (R620)
  | ldrPre (c : Cond) (u w : Bool) (rn rd : Reg) (off : Offset)  -- LDR_pre (R502)
  | ldrPost (c : Cond) (u : Bool) (rn rd : Reg) (off : Offset)  -- LDR_post (R502)
  | ldrt (c : Cond) (u : Bool) (rn rd : Reg) (off : Offset)  -- LDRT (R506)
  | strPre (c : Cond) (u w : Bool) (rn rd : Reg) (off : Offset)  -- STR_pre (R503)
  | strPost (c : Cond) (u : Bool) (rn rd : Reg) (off : Offset)  -- STR_post (R503)
  | strt (c : Cond) (u : Bool) (rn rd : Reg) (off : Offset)  -- STRT (R507)
  | ldrbPre (c : Cond) (u w : Bool) (rn rd : Reg) (off : Offset)  -- LDRB_pre (R504)
  | ldrbPost (c : Cond) (u : Bool) (rn rd : Reg) (off : Offset)  -- LDRB_post (R504)
  | ldrbt (c : Cond) (u : Bool) (rn rd : Reg) (off : Offset)  -- LDRBT (R508)
  | strbPre (c : Cond) (u w : Bool) (rn rd : Reg) (off : Offset)  -- STRB_pre (R505)
  | strbPost (c : Cond) (u : Bool) (rn rd : Reg) (off : Offset)  -- STRB_post (R505)
  | strbt (c : Cond) (u : Bool) (rn rd : Reg) (off : Offset)  -- STRBT (R509)
  | ldm (c : Cond) (p u sb w : Bool) (rn : Reg) (list : BitVec 16)  -- LDM (R531)
  | stm (c : Cond) (p u sb w : Bool) (rn : Reg) (list : BitVec 16)  -- STM (R532)
  | b (c : Cond) (off24 : BitVec 24)  -- B (R600)
  | bl (c : Cond) (off24 : BitVec 24)  -- BL (R601)
  | undCopTransfer (word : Word)  -- UNDEFINED (R620)
  | undCopOp (word : Word)  -- UNDEFINED (R620)
  | swi (c : Cond) (comment24 : BitVec 24)  -- SWI (R610)
  | tLslImm (off5 : BitVec 5) (rs rd : LoReg)  -- T_LSL_imm (R650)
  | tLsrImm (off5 : BitVec 5) (rs rd : LoReg)  -- T_LSR_imm (R651)
  | tAsrImm (off5 : BitVec 5) (rs rd : LoReg)  -- T_ASR_imm (R652)
  | tAddReg (rn rs rd : LoReg)  -- T_ADD_reg (R653)
  | tSubReg (rn rs rd : LoReg)  -- T_SUB_reg (R654)
  | tAddImm3 (off3 : BitVec 3) (rs rd : LoReg)  -- T_ADD_imm3 (R655)
  | tSubImm3 (off3 : BitVec 3) (rs rd : LoReg)  -- T_SUB_imm3 (R656)
  | tMovImm (rd : LoReg) (off8 : BitVec 8)  -- T_MOV_imm (R657)
  | tCmpImm (rd : LoReg) (off8 : BitVec 8)  -- T_CMP_imm (R658)
  | tAddImm8 (rd : LoReg) (off8 : BitVec 8)  -- T_ADD_imm8 (R659)
  | tSubImm8 (rd : LoReg) (off8 : BitVec 8)  -- T_SUB_imm8 (R660)
  | tAnd (rs rd : LoReg)  -- T_AND (R661)
  | tEor (rs rd : LoReg)  -- T_EOR (R662)
  | tLslReg (rs rd : LoReg)  -- T_LSL_reg (R663)
  | tLsrReg (rs rd : LoReg)  -- T_LSR_reg (R664)
  | tAsrReg (rs rd : LoReg)  -- T_ASR_reg (R665)
  | tAdc (rs rd : LoReg)  -- T_ADC (R666)
  | tSbc (rs rd : LoReg)  -- T_SBC (R667)
  | tRor (rs rd : LoReg)  -- T_ROR (R668)
  | tTst (rs rd : LoReg)  -- T_TST (R669)
  | tNeg (rs rd : LoReg)  -- T_NEG (R670)
  | tCmpReg (rs rd : LoReg)  -- T_CMP_reg (R671)
  | tCmn (rs rd : LoReg)  -- T_CMN (R672)
  | tOrr (rs rd : LoReg)  -- T_ORR (R673)
  | tMul (rs rd : LoReg)  -- T_MUL (R674)
  | tBic (rs rd : LoReg)  -- T_BIC (R675)
  | tMvn (rs rd : LoReg)  -- T_MVN (R676)
  | tAddHi (rs rd : Reg)  -- T_ADD_hi (R680)
  | tCmpHi (rs rd : Reg)  -- T_CMP_hi (R681)
  | tMovHi (rs rd : Reg)  -- T_MOV_hi (R682)
  | tBx (h1 : Bool) (rs : Reg) (rd : LoReg)  -- T_BX (R683)
  | tLdrPc (rd : LoReg) (word8 : BitVec 8)  -- T_LDR_pc (R700)
  | tStrReg (ro rb rd : LoReg)  -- T_STR_reg (R701)
  | tStrhReg (ro rb rd : LoReg)  -- T_STRH_reg (R705)
  | tStrbReg (ro rb rd : LoReg)  -- T_STRB_reg (R702)
  | tLdsb (ro rb rd : LoReg)  -- T_LDSB (R706)
  | tLdrReg (ro rb rd : LoReg)  -- T_LDR_reg (R703)
  | tLdrhReg (ro rb rd : LoReg)  -- T_LDRH_reg (R707)
  | tLdrbReg (ro rb rd : LoReg)  -- T_LDRB_reg (R704)
  | tLdsh (ro rb rd : LoReg)  -- T_LDSH (R708)
  | tStrImm (off5 : BitVec 5) (rb rd : LoReg)  -- T_STR_imm (R709)
  | tLdrImm (off5 : BitVec 5) (rb rd : LoReg)  -- T_LDR_imm (R710)
  | tStrbImm (off5 : BitVec 5) (rb rd : LoReg)  -- T_STRB_imm (R711)
  | tLdrbImm (off5 : BitVec 5) (rb rd : LoReg)  -- T_LDRB_imm (R712)
  | tStrhImm (off5 : BitVec 5) (rb rd : LoReg)  -- T_STRH_imm (R713)
  | tLdrhImm (off5 : BitVec 5) (rb rd : LoReg)  -- T_LDRH_imm (R714)
  | tStrSp (rd : LoReg) (word8 : BitVec 8)  -- T_STR_sp (R715)
  | tLdrSp (rd : LoReg) (word8 : BitVec 8)  -- T_LDR_sp (R716)
  | tAddPc (rd : LoReg) (word8 : BitVec 8)  -- T_ADD_pc (R690)
  | tAddSp (rd : LoReg) (word8 : BitVec 8)  -- T_ADD_sp (R691)
  | tAddSpImm (sword7 : BitVec 7)  -- T_ADD_sp_imm (R692)
  | tSubSpImm (sword7 : BitVec 7)  -- T_SUB_sp_imm (R693)
  | tUndB1 (half : Half)  -- UNDEFINED (R755)
  | tUndB2 (half : Half)  -- UNDEFINED (R755)
  | tPush (r : Bool) (rlist : BitVec 8)  -- T_PUSH (R720)
  | tUndB6 (half : Half)  -- UNDEFINED (R755)
  | tUndB8 (half : Half)  -- UNDEFINED (R755)
  | tPop (r : Bool) (rlist : BitVec 8)  -- T_POP (R721)
  | tUndBE (half : Half)  -- UNDEFINED (R755)
  | tStmia (rb : LoReg) (rlist : BitVec 8)  -- T_STMIA (R722)
  | tLdmia (rb : LoReg) (rlist : BitVec 8)  -- T_LDMIA (R723)
  | tUndDE (half : Half)  -- UNDEFINED (R755)
  | tSwi (value8 : BitVec 8)  -- T_SWI (R751)
  | tBcond (c : Cond) (soff8 : BitVec 8)  -- T_Bcond (R750)
  | tB (off11 : BitVec 11)  -- T_B (R752)
  | tUndE8 (half : Half)  -- UNDEFINED (R755)
  | tBlHi (off11 : BitVec 11)  -- T_BL_hi (R753)
  | tBlLo (off11 : BitVec 11)  -- T_BL_lo (R754)
  deriving DecidableEq, Repr

end Sys2Proof
end

