-- ==== Sys2Proof/Machine/Flags.lean ====
section
/-! DEFINITION. The condition check, the flag helpers and the sixteen data-processing operations with the flags each computes
(00 R13; 30 R304, R305; 40 R408 to R428). -/

namespace Sys2Proof.Machine

/-- Whether a condition passes (30 R304). -/
def condPass (c : Cond) (p : Cpsr) : Bool :=
  match c with
  | .eq => p.z
  | .ne => !p.z
  | .cs => p.c
  | .cc => !p.c
  | .mi => p.n
  | .pl => !p.n
  | .vs => p.v
  | .vc => !p.v
  | .hi => p.c && !p.z
  | .ls => !p.c || p.z
  | .ge => p.n == p.v
  | .lt => p.n != p.v
  | .gt => !p.z && p.n == p.v
  | .le => p.z || p.n != p.v
  | .al => true
  | .nv => false

/-- An ARM instruction whose condition fails only advances the PC (30 R305). -/
def armIf (c : Cond) (s : State) (body : Host.Outcome State Fault Refusal) : Host.Outcome State Fault Refusal :=
  if condPass c s.cpsr then body else .next (s.advancePc 4)

/-- `CarryFrom(a + b + c)`, on unbounded integers (00 R13). -/
def carryFrom (a b : Word) (c : Nat) : Bool := decide (2 ^ 32 ≤ a.toNat + b.toNat + c)

/-- `NotBorrow(a - b - c)`, on unbounded integers (00 R13). -/
def notBorrow (a b : Word) (c : Nat) : Bool := decide (b.toNat + c ≤ a.toNat)

/-- `OverflowAdd(a, b, r)` (00 R13). -/
def overflowAdd (a b r : Word) : Bool := a.msb == b.msb && r.msb != a.msb

/-- `OverflowSub(a, b, r)` (00 R13). -/
def overflowSub (a b r : Word) : Bool := a.msb != b.msb && r.msb != a.msb

/-- A result with the carry and overflow it gives. -/
structure AluOut where
  value : Word
  c : Bool
  v : Bool
  deriving DecidableEq, Repr

/-- `a + b + c` with its carry and overflow (00 R13). -/
def addOut (a b : Word) (c : Nat) : AluOut where
  value := a + b + BitVec.ofNat 32 c
  c := carryFrom a b c
  v := overflowAdd a b (a + b + BitVec.ofNat 32 c)

/-- `a - b - c` with its carry (not borrow) and overflow (00 R13). -/
def subOut (a b : Word) (c : Nat) : AluOut where
  value := a - b - BitVec.ofNat 32 c
  c := notBorrow a b c
  v := overflowSub a b (a - b - BitVec.ofNat 32 c)

/-- A logical result: C from the shifter, V unchanged (40 R409). -/
def logicOut (value : Word) (shc : Bool) (p : Cpsr) : AluOut where
  value := value
  c := shc
  v := p.v

/-- The sixteen operations (30 R302). -/
inductive DpOp where
  | and | eor | sub | rsb | add | adc | sbc | rsc | tst | teq | cmp | cmn | orr | mov | bic | mvn
  deriving DecidableEq, Repr

/-- `ALU(op, a, sh, shc)` (40 R413 to R428). -/
def alu (op : DpOp) (a sh : Word) (shc : Bool) (p : Cpsr) : AluOut :=
  match op with
  | .and => logicOut (a &&& sh) shc p
  | .eor => logicOut (a ^^^ sh) shc p
  | .sub => subOut a sh 0
  | .rsb => subOut sh a 0
  | .add => addOut a sh 0
  | .adc => addOut a sh p.c.toNat
  | .sbc => subOut a sh (!p.c).toNat
  | .rsc => subOut sh a (!p.c).toNat
  | .tst => logicOut (a &&& sh) shc p
  | .teq => logicOut (a ^^^ sh) shc p
  | .cmp => subOut a sh 0
  | .cmn => addOut a sh 0
  | .orr => logicOut (a ||| sh) shc p
  | .mov => logicOut sh shc p
  | .bic => logicOut (a &&& ~~~sh) shc p
  | .mvn => logicOut (~~~sh) shc p

/-- TST, TEQ, CMP and CMN write no register (40 R411). -/
def DpOp.isTest (op : DpOp) : Bool :=
  match op with
  | .tst => true | .teq => true | .cmp => true | .cmn => true
  | .and => false | .eor => false | .sub => false | .rsb => false | .add => false | .adc => false | .sbc => false
  | .rsc => false | .orr => false | .mov => false | .bic => false | .mvn => false

/-- MOV and MVN ignore Rn (40 R426, R428). -/
def DpOp.ignoresRn (op : DpOp) : Bool :=
  match op with
  | .mov => true | .mvn => true
  | .and => false | .eor => false | .sub => false | .rsb => false | .add => false | .adc => false | .sbc => false
  | .rsc => false | .tst => false | .teq => false | .cmp => false | .cmn => false | .orr => false | .bic => false

/-- The status with the four flags. -/
def Cpsr.withNzcv (p : Cpsr) (n z c v : Bool) : Cpsr := { p with n := n, z := z, c := c, v := v }

/-- N and Z from a result, C and V as given (40 R408). -/
def Cpsr.withResult (p : Cpsr) (r : AluOut) : Cpsr := p.withNzcv r.value.msb (r.value == 0) r.c r.v

/-- Sets the four flags from a result (40 R408). -/
def State.setFlags (s : State) (r : AluOut) : State := s.setCpsr (s.cpsr.withResult r)

end Sys2Proof.Machine
end

