-- ==== Sys2Proof/Machine/Operands.lean ====
section
/-! DEFINITION. The operand forms: the barrel shifter, the second operand of data processing, the offsets and addresses of
transfers, register lists (30 R310 to R314; 40 R400 to R407; 42 R500, R520, R530). -/

namespace Sys2Proof.Machine

/-- LSL by `n` with its carry-out (40 R401). -/
def lslOut (m : Word) (n : Nat) (cin : Bool) : Word × Bool :=
  if n = 0 then (m, cin)
  else if n < 32 then (m <<< n, m.getLsbD (32 - n))
  else if n = 32 then (0, m.getLsbD 0)
  else (0, false)

/-- LSR by `n` with its carry-out (40 R402). -/
def lsrOut (m : Word) (n : Nat) (cin : Bool) : Word × Bool :=
  if n = 0 then (m, cin)
  else if n < 32 then (m >>> n, m.getLsbD (n - 1))
  else if n = 32 then (0, m.getLsbD 31)
  else (0, false)

/-- ASR by `n` with its carry-out (40 R403). -/
def asrOut (m : Word) (n : Nat) (cin : Bool) : Word × Bool :=
  if n = 0 then (m, cin)
  else if n < 32 then (m.sshiftRight n, m.getLsbD (n - 1))
  else (if m.getLsbD 31 then 0xFFFFFFFF else 0, m.getLsbD 31)

/-- ROR by `n` with its carry-out (40 R404). -/
def rorOut (m : Word) (n : Nat) (cin : Bool) : Word × Bool :=
  if n = 0 then (m, cin)
  else if n % 32 = 0 then (m, m.getLsbD 31)
  else (rorWord m n, m.getLsbD (n % 32 - 1))

/-- RRX: rotate right by one through the carry (40 R404). -/
def rrxOut (m : Word) (cin : Bool) : Word × Bool := (BitVec.ofBool cin ++ m.extractLsb' 1 31, m.getLsbD 0)

/-- The shifter by a register amount: no substitution (40 R407). -/
def shiftByAmount (sh : ShiftType) (m : Word) (n : Nat) (cin : Bool) : Word × Bool :=
  match sh with
  | .lsl => lslOut m n cin
  | .lsr => lsrOut m n cin
  | .asr => asrOut m n cin
  | .ror => rorOut m n cin

/-- The shifter by an immediate, with the substitutions for 0 (40 R406). -/
def shiftByImm (sh : ShiftType) (m : Word) (n : BitVec 5) (cin : Bool) : Word × Bool :=
  match sh with
  | .lsl => lslOut m n.toNat cin
  | .lsr => lsrOut m (if n = 0 then 32 else n.toNat) cin
  | .asr => asrOut m (if n = 0 then 32 else n.toNat) cin
  | .ror => if n = 0 then rrxOut m cin else rorOut m n.toNat cin

/-- The value of a rotated immediate (30 R310). -/
def rotImm (rot : BitVec 4) (imm8 : BitVec 8) : Word := rorWord (zext imm8) (2 * rot.toNat)

/-- The immediate operand and its carry-out (40 R405). -/
def immOperand (s : State) (rot : BitVec 4) (imm8 : BitVec 8) : Word × Bool :=
  (rotImm rot imm8, if rot = 0 then s.cpsr.c else (rotImm rot imm8).getLsbD 31)

/-- The register operand with an immediate shift (40 R406). -/
def rsiOperand (s : State) (shImm : BitVec 5) (sh : ShiftType) (rm : Reg) : Word × Bool :=
  shiftByImm sh (s.regArm rm) shImm s.cpsr.c

/-- The register operand with a register shift: the amount is the low byte of Rs (40 R407). -/
def rsrOperand (s : State) (rs : Reg) (sh : ShiftType) (rm : Reg) : Word × Bool :=
  shiftByAmount sh (s.regArm rm) ((s.regArm rs).extractLsb' 0 8).toNat s.cpsr.c

/-- The offset of a single data transfer: the carry-out is discarded (30 R312, 42 R500). -/
def offsetValue (s : State) (off : Offset) : Word :=
  match off with
  | .imm v => zext v
  | .reg shImm sh rm => (rsiOperand s shImm sh rm).1

/-- The offset is a register offset with Rm = 15 (42 R500). -/
def offsetNamesR15 (off : Offset) : Bool :=
  match off with
  | .imm _ => false
  | .reg _ _ rm => rm = 15

/-- The offset of a halfword transfer (30 R312, 42 R520). -/
def halfOffsetValue (s : State) (off : HalfOffset) : Word :=
  match off with
  | .imm v => zext v
  | .reg rm => s.regArm rm

/-- The offset is a register offset with Rm = 15 (42 R520). -/
def halfOffsetNamesR15 (off : HalfOffset) : Bool :=
  match off with
  | .imm _ => false
  | .reg rm => rm = 15

/-- `indexed`: the base plus or minus the offset (42 R500). -/
def indexedAddr (s : State) (u : Bool) (rn : Reg) (off : Word) : Word :=
  if u then s.regArm rn + off else s.regArm rn - off

/-- `addr`: pre-indexed or post-indexed (42 R500). -/
def accessAddr (s : State) (p u : Bool) (rn : Reg) (off : Word) : Word :=
  if p then indexedAddr s u rn off else s.regArm rn

/-- The registers of a 16-bit list, ascending (42 R530). -/
def regList (list : BitVec 16) : List Reg := (List.finRange 16).filter fun r => list.getLsbD r.val

/-- The registers of an 8-bit list, ascending (45 R720). -/
def loRegList (list : BitVec 8) : List LoReg := (List.finRange 8).filter fun r => list.getLsbD r.val

/-- `4n`: the bytes of a block of `n` registers. -/
def blockBytes (n : Nat) : Word := BitVec.ofNat 32 (4 * n)

/-- The first address of a block transfer (42 R530). -/
def blockFirst (p u : Bool) (base : Word) (n : Nat) : Word :=
  match p, u with
  | false, true => base
  | true, true => base + 4
  | false, false => base - blockBytes n + 4
  | true, false => base - blockBytes n

/-- The write-back value of a block transfer (42 R530). -/
def blockWb (u : Bool) (base : Word) (n : Nat) : Word :=
  if u then base + blockBytes n else base - blockBytes n

end Sys2Proof.Machine
end

