-- ==== Sys2Proof/Machine/Block.lean ====
section
/-! DEFINITION. LDM and STM (42 R530 to R543). -/

namespace Sys2Proof.Machine

/-- The list names a register. -/
def inList (list : BitVec 16) (r : Reg) : Bool := list.getLsbD r.val

/-- No register of the list is below `r`. -/
def isLowest (list : BitVec 16) (r : Reg) : Bool := (regList list).head? = some r

/-- User and System mode have no bank but the user bank (42 R540). -/
def Mode.isUserBank (m : Mode) : Bool := m = .usr || m = .sys

/-- The restrictions of LDM; with S = 1 and R15 not in the list, those of the user-bank form (42 R530, R531, R540; log 11). -/
def ldmFault (sb w : Bool) (rn : Reg) (list : BitVec 16) (m : Mode) : Option Fault :=
  if list = 0 then some .ldmStmEmptyList
  else if rn = 15 then some .ldmStmRnR15
  else if sb && !inList list 15 && w then some .userBankWriteback
  else if sb && !inList list 15 && m.isUserBank then some .userBankInUsrSys
  else if w && inList list rn then some .ldmWbRnInList
  else none

/-- The restrictions of STM (42 R530, R541; log 11). -/
def stmFault (sb w : Bool) (rn : Reg) (list : BitVec 16) (m : Mode) : Option Fault :=
  if list = 0 then some .ldmStmEmptyList
  else if rn = 15 then some .ldmStmRnR15
  else if sb && w then some .userBankWriteback
  else if sb && m.isUserBank then some .userBankInUsrSys
  else none

/-- The mode whose bank a block transfer reaches: the user bank for the user-bank forms (42 R540, R541; 10 R104). -/
def blockMode (user : Bool) (s : State) : Mode := if user then .usr else s.cpsr.mode

/-- The base register's write-back of a block transfer, where W asks for it. -/
def blockWriteBack (s : State) (w : Bool) (rn : Reg) (v : Word) : State := if w then s.setReg rn v else s

/-- The registers LDM has loaded: write-back before the loads, R15 aside (42 R531). -/
def ldmLoaded (p u sb w : Bool) (rn : Reg) (list : BitVec 16) (s : State) : State :=
  (blockWriteBack s w rn (blockWb u (s.regArm rn) (regList list).length)).loadRegs
    (blockMode (sb && !inList list 15) s) (blockFirst p u (s.regArm rn) (regList list).length) (regList list)

/-- The word LDM loads for R15, the last of the block (42 R531). -/
def ldmTarget (p u : Bool) (rn : Reg) (list : BitVec 16) (s : State) : Word :=
  s.memRead (blockFirst p u (s.regArm rn) (regList list).length + blockBytes ((regList list).length - 1)) .b4

/-- LDM: the plain form, the user-bank form and the restore form (42 R531, R540, R542). -/
def ldm (p u sb w : Bool) (rn : Reg) (list : BitVec 16) (s : State) : Host.Outcome State Fault Refusal :=
  match ldmFault sb w rn list s.cpsr.mode with
  | some f => .fault f
  | none =>
    if inList list 15 then
      if sb then (ldmLoaded p u sb w rn list s).psrRestore (ldmTarget p u rn list s)
      else .next ((ldmLoaded p u sb w rn list s).setPc (align4 (ldmTarget p u rn list s)))
    else .next ((ldmLoaded p u sb w rn list s).advancePc 4)

/-- The base is in the list, not lowest, and written back: its stored value is free (42 R532). -/
def stmDraws (w : Bool) (rn : Reg) (list : BitVec 16) : Bool := w && inList list rn && !isLowest list rn

/-- The value STM stores for a register: R15 stores pc + 12 (42 R532, R541). -/
def stmValue (sb w : Bool) (rn : Reg) (list : BitVec 16) (s : State) (r : Reg) : Word :=
  if r = rn && stmDraws w rn list then s.any32 .stmWbBaseNotLowest else s.regOf (blockMode sb s) 12 r

/-- The state after STM's stores. -/
def stmStored (p u sb w : Bool) (rn : Reg) (list : BitVec 16) (s : State) : State :=
  s.storeWords (blockFirst p u (s.regArm rn) (regList list).length) ((regList list).map (stmValue sb w rn list s))

/-- STM: the plain and the user-bank form (42 R532, R541). -/
def stm (p u sb w : Bool) (rn : Reg) (list : BitVec 16) (s : State) : Host.Outcome State Fault Refusal :=
  match stmFault sb w rn list s.cpsr.mode with
  | some f => .fault f
  | none =>
    let stored := stmStored p u sb w rn list s
    let counted := if stmDraws w rn list then stored.drawn else stored
    .next ((blockWriteBack counted w rn (blockWb u (s.regArm rn) (regList list).length)).advancePc 4)

/-- LDM (42 R531, R540, R542). -/
def execLdm (c : Cond) (p u sb w : Bool) (rn : Reg) (list : BitVec 16) (s : State) : Host.Outcome State Fault Refusal :=
  armIf c s (ldm p u sb w rn list s)

/-- STM (42 R532, R541). -/
def execStm (c : Cond) (p u sb w : Bool) (rn : Reg) (list : BitVec 16) (s : State) : Host.Outcome State Fault Refusal :=
  armIf c s (stm p u sb w rn list s)

end Sys2Proof.Machine
end

