-- ==== Sys2Proof/WellFormed.lean ====
section
/-! DEFINITION. What makes a term of `Instr` an instruction a word can hold. The operand types already bound every register,
immediate and field. Two checks are left: the condition of a Thumb conditional branch (30 R307, format 16), and, for
a decode anomaly, that its word belongs to its own row of spec/opcode_table.json and to no earlier one (30 R306, R308). -/

namespace Sys2Proof

/-- The word's bits under `mask` are `val`. -/
def Word.under (w mask val : Word) : Bool := w &&& mask = val

/-- The halfword's bits under `mask` are `val`. -/
def Half.under (h mask val : Half) : Bool := h &&& mask = val

/-- The multiply and swap space other than MUL, MLA, the long multiplies, SWP and SWPB (30 R306 step 1, R321). -/
def isUndMulSwap (w : Word) : Bool :=
  Word.under w 0x0E0000F0 0x00000090 && !Word.under w 0x0FC000F0 0x00000090 && !Word.under w 0x0F8000F0 0x00800090 &&
    !Word.under w 0x0FB000F0 0x01000090

/-- Halfword transfers with L = 0 and SH = 10 or 11 (30 R306 step 2, R321). -/
def isUndHalfword (w : Word) : Bool := Word.under w 0x0E1000D0 0x000000D0

/-- The PSR-transfer and BX space other than MRS, MSR and BX, and outside the multiply, swap and halfword
spaces, which steps 1 and 2 take (30 R306 step 3, R321). -/
def isUndPsr (w : Word) : Bool :=
  Word.under w 0x0F900000 0x01000000 && !Word.under w 0x00000090 0x00000090 && !Word.under w 0x0FB000F0 0x01000000 &&
    !Word.under w 0x0FB000F0 0x01200000 && !Word.under w 0x0FF000F0 0x01200010

/-- The words of the MSR-immediate space with bit 21 = 0 (30 R306 step 4, R321). -/
def isUndMsrImm (w : Word) : Bool := Word.under w 0x0FB00000 0x03000000

/-- Bits 27:25 = 011 and bit 4 = 1 (30 R306 step 6, R321). -/
def isUnd011 (w : Word) : Bool := Word.under w 0x0E000010 0x06000010

/-- Coprocessor transfers (30 R306 step 10, R321). -/
def isUndCopTransfer (w : Word) : Bool := Word.under w 0x0E000000 0x0C000000

/-- Coprocessor operations and register transfers (30 R306 step 10, R321). -/
def isUndCopOp (w : Word) : Bool := Word.under w 0x0F000000 0x0E000000

/-- A condition a Thumb conditional branch can have: not 1110, which is reserved, nor 1111, which is SWI
(30 R307 format 16, R321). -/
def isThumbCond (c : Cond) : Bool := c ≠ .al && c ≠ .nv

/-- The instruction is one that a word can hold. -/
def Instr.wf (i : Instr) : Bool :=
  match i with
  | .undMulSwap w => isUndMulSwap w
  | .undHalfword w => isUndHalfword w
  | .undPsr w => isUndPsr w
  | .undMsrImm w => isUndMsrImm w
  | .und011 w => isUnd011 w
  | .undCopTransfer w => isUndCopTransfer w
  | .undCopOp w => isUndCopOp w
  | .tUndB1 h => Half.under h 0xFF00 0xB100
  | .tUndB2 h => Half.under h 0xFE00 0xB200
  | .tUndB6 h => Half.under h 0xFE00 0xB600
  | .tUndB8 h => Half.under h 0xFC00 0xB800
  | .tUndBE h => Half.under h 0xFE00 0xBE00
  | .tUndDE h => Half.under h 0xFF00 0xDE00
  | .tUndE8 h => Half.under h 0xF800 0xE800
  | .tBcond c _ => isThumbCond c
  | .mul _ _ _ _ _ _ | .mla _ _ _ _ _ _ | .umull _ _ _ _ _ _ | .umlal _ _ _ _ _ _ | .smull _ _ _ _ _ _
  | .smlal _ _ _ _ _ _ | .swp _ _ _ _ | .swpb _ _ _ _ | .ldrh _ _ _ _ _ _ _ | .ldrsb _ _ _ _ _ _ _
  | .ldrsh _ _ _ _ _ _ _ | .strh _ _ _ _ _ _ _ | .mrs _ _ _ | .msrReg _ _ _ _ | .bx _ _ | .msrImm _ _ _ _ _
  | .andImm _ _ _ _ _ _ | .andRsi _ _ _ _ _ _ _ | .andRsr _ _ _ _ _ _ _ | .eorImm _ _ _ _ _ _ | .eorRsi _ _ _ _ _ _ _
  | .eorRsr _ _ _ _ _ _ _ | .subImm _ _ _ _ _ _ | .subRsi _ _ _ _ _ _ _ | .subRsr _ _ _ _ _ _ _ | .rsbImm _ _ _ _ _ _
  | .rsbRsi _ _ _ _ _ _ _ | .rsbRsr _ _ _ _ _ _ _ | .addImm _ _ _ _ _ _ | .addRsi _ _ _ _ _ _ _
  | .addRsr _ _ _ _ _ _ _ | .adcImm _ _ _ _ _ _ | .adcRsi _ _ _ _ _ _ _ | .adcRsr _ _ _ _ _ _ _ | .sbcImm _ _ _ _ _ _
  | .sbcRsi _ _ _ _ _ _ _ | .sbcRsr _ _ _ _ _ _ _ | .rscImm _ _ _ _ _ _ | .rscRsi _ _ _ _ _ _ _
  | .rscRsr _ _ _ _ _ _ _ | .tstImm _ _ _ _ _ | .tstRsi _ _ _ _ _ _ | .tstRsr _ _ _ _ _ _ | .teqImm _ _ _ _ _
  | .teqRsi _ _ _ _ _ _ | .teqRsr _ _ _ _ _ _ | .cmpImm _ _ _ _ _ | .cmpRsi _ _ _ _ _ _ | .cmpRsr _ _ _ _ _ _
  | .cmnImm _ _ _ _ _ | .cmnRsi _ _ _ _ _ _ | .cmnRsr _ _ _ _ _ _ | .orrImm _ _ _ _ _ _ | .orrRsi _ _ _ _ _ _ _
  | .orrRsr _ _ _ _ _ _ _ | .movImm _ _ _ _ _ _ | .movRsi _ _ _ _ _ _ _ | .movRsr _ _ _ _ _ _ _ | .bicImm _ _ _ _ _ _
  | .bicRsi _ _ _ _ _ _ _ | .bicRsr _ _ _ _ _ _ _ | .mvnImm _ _ _ _ _ _ | .mvnRsi _ _ _ _ _ _ _
  | .mvnRsr _ _ _ _ _ _ _ | .ldrPre _ _ _ _ _ _ | .ldrPost _ _ _ _ _ | .ldrt _ _ _ _ _ | .strPre _ _ _ _ _ _
  | .strPost _ _ _ _ _ | .strt _ _ _ _ _ | .ldrbPre _ _ _ _ _ _ | .ldrbPost _ _ _ _ _ | .ldrbt _ _ _ _ _
  | .strbPre _ _ _ _ _ _ | .strbPost _ _ _ _ _ | .strbt _ _ _ _ _ | .ldm _ _ _ _ _ _ _ | .stm _ _ _ _ _ _ _ | .b _ _
  | .bl _ _ | .swi _ _ | .tLslImm _ _ _ | .tLsrImm _ _ _ | .tAsrImm _ _ _ | .tAddReg _ _ _ | .tSubReg _ _ _
  | .tAddImm3 _ _ _ | .tSubImm3 _ _ _ | .tMovImm _ _ | .tCmpImm _ _ | .tAddImm8 _ _ | .tSubImm8 _ _ | .tAnd _ _
  | .tEor _ _ | .tLslReg _ _ | .tLsrReg _ _ | .tAsrReg _ _ | .tAdc _ _ | .tSbc _ _ | .tRor _ _ | .tTst _ _
  | .tNeg _ _ | .tCmpReg _ _ | .tCmn _ _ | .tOrr _ _ | .tMul _ _ | .tBic _ _ | .tMvn _ _ | .tAddHi _ _ | .tCmpHi _ _
  | .tMovHi _ _ | .tBx _ _ _ | .tLdrPc _ _ | .tStrReg _ _ _ | .tStrhReg _ _ _ | .tStrbReg _ _ _ | .tLdsb _ _ _
  | .tLdrReg _ _ _ | .tLdrhReg _ _ _ | .tLdrbReg _ _ _ | .tLdsh _ _ _ | .tStrImm _ _ _ | .tLdrImm _ _ _
  | .tStrbImm _ _ _ | .tLdrbImm _ _ _ | .tStrhImm _ _ _ | .tLdrhImm _ _ _ | .tStrSp _ _ | .tLdrSp _ _ | .tAddPc _ _
  | .tAddSp _ _ | .tAddSpImm _ | .tSubSpImm _ | .tPush _ _ | .tPop _ _ | .tStmia _ _ | .tLdmia _ _ | .tSwi _ | .tB _
  | .tBlHi _ | .tBlLo _ => true

end Sys2Proof
end

