-- ==== Sys2Proof/Decode.lean ====
section
/-! DEFINITION. The decoder and the encoder. The rows are those of spec/opcode_table.json in its order: a word is decoded by
the first row it matches (30 R306, R308). The encoder is written from the format tables of 30 R301 and R307. -/

namespace Sys2Proof

/-- An instruction word of one of the two encodings (30 R300). -/
inductive Code where
  | arm (w : Word)
  | thumb (h : Half)
  deriving DecidableEq, Repr

/-! ### Fields -/

/-- Bit `n` of a word. -/
def bitAt {k : Nat} (w : BitVec k) (n : Nat) : Bool := w.getLsbD n

/-- The register number in bits lo+3:lo. -/
def regAt (w : Word) (lo : Nat) : Reg := (w.extractLsb' lo 4).toFin

/-- The low-register number in bits lo+2:lo of a Thumb halfword. -/
def loRegAt (h : Half) (lo : Nat) : LoReg := (h.extractLsb' lo 3).toFin

/-- The register number of a Thumb high-register form: the H bit over a 3-bit field (30 R307, format 5). -/
def hiRegAt (h : Half) (hBit lo : Nat) : Reg := (h.extractLsb' hBit 1 ++ h.extractLsb' lo 3).toFin

/-- The condition of a 4-bit code (30 R304). -/
def condOfBits (b : BitVec 4) : Cond :=
  match b with
  | 0x0#4 => .eq | 0x1#4 => .ne | 0x2#4 => .cs | 0x3#4 => .cc
  | 0x4#4 => .mi | 0x5#4 => .pl | 0x6#4 => .vs | 0x7#4 => .vc
  | 0x8#4 => .hi | 0x9#4 => .ls | 0xA#4 => .ge | 0xB#4 => .lt
  | 0xC#4 => .gt | 0xD#4 => .le | 0xE#4 => .al | _ => .nv

/-- The 4-bit code of a condition (30 R304). -/
def condBits (c : Cond) : BitVec 4 :=
  match c with
  | .eq => 0x0#4 | .ne => 0x1#4 | .cs => 0x2#4 | .cc => 0x3#4
  | .mi => 0x4#4 | .pl => 0x5#4 | .vs => 0x6#4 | .vc => 0x7#4
  | .hi => 0x8#4 | .ls => 0x9#4 | .ge => 0xA#4 | .lt => 0xB#4
  | .gt => 0xC#4 | .le => 0xD#4 | .al => 0xE#4 | .nv => 0xF#4

/-- The shift type of a 2-bit code (30 R302). -/
def shiftOfBits (b : BitVec 2) : ShiftType :=
  match b with
  | 0b00#2 => .lsl | 0b01#2 => .lsr | 0b10#2 => .asr | _ => .ror

/-- The 2-bit code of a shift type (30 R302). -/
def shiftBits (sh : ShiftType) : BitVec 2 :=
  match sh with
  | .lsl => 0b00#2 | .lsr => 0b01#2 | .asr => 0b10#2 | .ror => 0b11#2

/-- The condition field of an ARM word, bits 31:28 (30 R301). -/
def armCond (w : Word) : Cond := condOfBits (w.extractLsb' 28 4)

/-- The shift field of an ARM word, bits 6:5 (30 R302). -/
def armShift (w : Word) : ShiftType := shiftOfBits (w.extractLsb' 5 2)

/-- The offset of a single data transfer: bit 25 is I, and I = 0 means the immediate (30 R301, R312). -/
def armOffset (w : Word) : Offset :=
  if bitAt w 25 then .reg (w.extractLsb' 7 5) (armShift w) (regAt w 0) else .imm (w.extractLsb' 0 12)

/-- The offset of a halfword transfer: bit 22 is I, and I = 1 means the immediate immH:immL (30 R303, R312). -/
def armHalfOffset (w : Word) : HalfOffset :=
  if bitAt w 22 then .imm (w.extractLsb' 8 4 ++ w.extractLsb' 0 4) else .reg (regAt w 0)

/-! ### The rows -/

/-- One row of the ARM table: a word matches where its bits under `mask` are `val`. -/
structure ArmRow where
  mask : Word
  val : Word
  build : Word → Instr

/-- One row of the Thumb table. -/
structure ThumbRow where
  mask : Half
  val : Half
  build : Half → Instr

/-- Multiply and swap space (30 R306 step 1). -/
def mulSwapRows : List ArmRow := [
  ⟨0x0FE000F0, 0x00000090, fun w => .mul (armCond w) (bitAt w 20) (regAt w 16) (regAt w 12) (regAt w 8) (regAt w 0)⟩,
  ⟨0x0FE000F0, 0x00200090, fun w => .mla (armCond w) (bitAt w 20) (regAt w 16) (regAt w 12) (regAt w 8) (regAt w 0)⟩,
  ⟨0x0FE000F0, 0x00800090, fun w => .umull (armCond w) (bitAt w 20) (regAt w 16) (regAt w 12) (regAt w 8) (regAt w 0)⟩,
  ⟨0x0FE000F0, 0x00A00090, fun w => .umlal (armCond w) (bitAt w 20) (regAt w 16) (regAt w 12) (regAt w 8) (regAt w 0)⟩,
  ⟨0x0FE000F0, 0x00C00090, fun w => .smull (armCond w) (bitAt w 20) (regAt w 16) (regAt w 12) (regAt w 8) (regAt w 0)⟩,
  ⟨0x0FE000F0, 0x00E00090, fun w => .smlal (armCond w) (bitAt w 20) (regAt w 16) (regAt w 12) (regAt w 8) (regAt w 0)⟩,
  ⟨0x0FF000F0, 0x01000090, fun w => .swp (armCond w) (regAt w 16) (regAt w 12) (regAt w 0)⟩,
  ⟨0x0FF000F0, 0x01400090, fun w => .swpb (armCond w) (regAt w 16) (regAt w 12) (regAt w 0)⟩,
  ⟨0x0E0000F0, 0x00000090, fun w => .undMulSwap w⟩]

/-- Halfword and signed transfers (30 R306 step 2). -/
def halfwordRows : List ArmRow := [
  ⟨0x0E1000F0, 0x001000B0, fun w => .ldrh (armCond w) (bitAt w 24) (bitAt w 23) (bitAt w 21) (regAt w 16) (regAt w 12) (armHalfOffset w)⟩,
  ⟨0x0E1000F0, 0x001000D0, fun w => .ldrsb (armCond w) (bitAt w 24) (bitAt w 23) (bitAt w 21) (regAt w 16) (regAt w 12) (armHalfOffset w)⟩,
  ⟨0x0E1000F0, 0x001000F0, fun w => .ldrsh (armCond w) (bitAt w 24) (bitAt w 23) (bitAt w 21) (regAt w 16) (regAt w 12) (armHalfOffset w)⟩,
  ⟨0x0E1000F0, 0x000000B0, fun w => .strh (armCond w) (bitAt w 24) (bitAt w 23) (bitAt w 21) (regAt w 16) (regAt w 12) (armHalfOffset w)⟩,
  ⟨0x0E1000D0, 0x000000D0, fun w => .undHalfword w⟩]

/-- PSR transfers and BX (30 R306 steps 3 and 4). -/
def psrRows : List ArmRow := [
  ⟨0x0FB000F0, 0x01000000, fun w => .mrs (armCond w) (bitAt w 22) (regAt w 12)⟩,
  ⟨0x0FB000F0, 0x01200000, fun w => .msrReg (armCond w) (bitAt w 22) (w.extractLsb' 16 4) (regAt w 0)⟩,
  ⟨0x0FF000F0, 0x01200010, fun w => .bx (armCond w) (regAt w 0)⟩,
  ⟨0x0F900000, 0x01000000, fun w => .undPsr w⟩,
  ⟨0x0FB00000, 0x03200000, fun w => .msrImm (armCond w) (bitAt w 22) (w.extractLsb' 16 4) (w.extractLsb' 8 4) (w.extractLsb' 0 8)⟩,
  ⟨0x0FB00000, 0x03000000, fun w => .undMsrImm w⟩]

/-- Data processing, AND to RSB (30 R306 step 5). -/
def dataProcRows0 : List ArmRow := [
  ⟨0x0FE00000, 0x02000000, fun w => .andImm (armCond w) (bitAt w 20) (regAt w 16) (regAt w 12) (w.extractLsb' 8 4) (w.extractLsb' 0 8)⟩,
  ⟨0x0FE00010, 0x00000000, fun w => .andRsi (armCond w) (bitAt w 20) (regAt w 16) (regAt w 12) (w.extractLsb' 7 5) (armShift w) (regAt w 0)⟩,
  ⟨0x0FE00090, 0x00000010, fun w => .andRsr (armCond w) (bitAt w 20) (regAt w 16) (regAt w 12) (regAt w 8) (armShift w) (regAt w 0)⟩,
  ⟨0x0FE00000, 0x02200000, fun w => .eorImm (armCond w) (bitAt w 20) (regAt w 16) (regAt w 12) (w.extractLsb' 8 4) (w.extractLsb' 0 8)⟩,
  ⟨0x0FE00010, 0x00200000, fun w => .eorRsi (armCond w) (bitAt w 20) (regAt w 16) (regAt w 12) (w.extractLsb' 7 5) (armShift w) (regAt w 0)⟩,
  ⟨0x0FE00090, 0x00200010, fun w => .eorRsr (armCond w) (bitAt w 20) (regAt w 16) (regAt w 12) (regAt w 8) (armShift w) (regAt w 0)⟩,
  ⟨0x0FE00000, 0x02400000, fun w => .subImm (armCond w) (bitAt w 20) (regAt w 16) (regAt w 12) (w.extractLsb' 8 4) (w.extractLsb' 0 8)⟩,
  ⟨0x0FE00010, 0x00400000, fun w => .subRsi (armCond w) (bitAt w 20) (regAt w 16) (regAt w 12) (w.extractLsb' 7 5) (armShift w) (regAt w 0)⟩,
  ⟨0x0FE00090, 0x00400010, fun w => .subRsr (armCond w) (bitAt w 20) (regAt w 16) (regAt w 12) (regAt w 8) (armShift w) (regAt w 0)⟩,
  ⟨0x0FE00000, 0x02600000, fun w => .rsbImm (armCond w) (bitAt w 20) (regAt w 16) (regAt w 12) (w.extractLsb' 8 4) (w.extractLsb' 0 8)⟩,
  ⟨0x0FE00010, 0x00600000, fun w => .rsbRsi (armCond w) (bitAt w 20) (regAt w 16) (regAt w 12) (w.extractLsb' 7 5) (armShift w) (regAt w 0)⟩,
  ⟨0x0FE00090, 0x00600010, fun w => .rsbRsr (armCond w) (bitAt w 20) (regAt w 16) (regAt w 12) (regAt w 8) (armShift w) (regAt w 0)⟩]

/-- Data processing, ADD to RSC (30 R306 step 5). -/
def dataProcRows1 : List ArmRow := [
  ⟨0x0FE00000, 0x02800000, fun w => .addImm (armCond w) (bitAt w 20) (regAt w 16) (regAt w 12) (w.extractLsb' 8 4) (w.extractLsb' 0 8)⟩,
  ⟨0x0FE00010, 0x00800000, fun w => .addRsi (armCond w) (bitAt w 20) (regAt w 16) (regAt w 12) (w.extractLsb' 7 5) (armShift w) (regAt w 0)⟩,
  ⟨0x0FE00090, 0x00800010, fun w => .addRsr (armCond w) (bitAt w 20) (regAt w 16) (regAt w 12) (regAt w 8) (armShift w) (regAt w 0)⟩,
  ⟨0x0FE00000, 0x02A00000, fun w => .adcImm (armCond w) (bitAt w 20) (regAt w 16) (regAt w 12) (w.extractLsb' 8 4) (w.extractLsb' 0 8)⟩,
  ⟨0x0FE00010, 0x00A00000, fun w => .adcRsi (armCond w) (bitAt w 20) (regAt w 16) (regAt w 12) (w.extractLsb' 7 5) (armShift w) (regAt w 0)⟩,
  ⟨0x0FE00090, 0x00A00010, fun w => .adcRsr (armCond w) (bitAt w 20) (regAt w 16) (regAt w 12) (regAt w 8) (armShift w) (regAt w 0)⟩,
  ⟨0x0FE00000, 0x02C00000, fun w => .sbcImm (armCond w) (bitAt w 20) (regAt w 16) (regAt w 12) (w.extractLsb' 8 4) (w.extractLsb' 0 8)⟩,
  ⟨0x0FE00010, 0x00C00000, fun w => .sbcRsi (armCond w) (bitAt w 20) (regAt w 16) (regAt w 12) (w.extractLsb' 7 5) (armShift w) (regAt w 0)⟩,
  ⟨0x0FE00090, 0x00C00010, fun w => .sbcRsr (armCond w) (bitAt w 20) (regAt w 16) (regAt w 12) (regAt w 8) (armShift w) (regAt w 0)⟩,
  ⟨0x0FE00000, 0x02E00000, fun w => .rscImm (armCond w) (bitAt w 20) (regAt w 16) (regAt w 12) (w.extractLsb' 8 4) (w.extractLsb' 0 8)⟩,
  ⟨0x0FE00010, 0x00E00000, fun w => .rscRsi (armCond w) (bitAt w 20) (regAt w 16) (regAt w 12) (w.extractLsb' 7 5) (armShift w) (regAt w 0)⟩,
  ⟨0x0FE00090, 0x00E00010, fun w => .rscRsr (armCond w) (bitAt w 20) (regAt w 16) (regAt w 12) (regAt w 8) (armShift w) (regAt w 0)⟩]

/-- Data processing, TST to CMN (30 R306 step 5). -/
def dataProcRows2 : List ArmRow := [
  ⟨0x0FF00000, 0x03100000, fun w => .tstImm (armCond w) (regAt w 16) (regAt w 12) (w.extractLsb' 8 4) (w.extractLsb' 0 8)⟩,
  ⟨0x0FF00010, 0x01100000, fun w => .tstRsi (armCond w) (regAt w 16) (regAt w 12) (w.extractLsb' 7 5) (armShift w) (regAt w 0)⟩,
  ⟨0x0FF00090, 0x01100010, fun w => .tstRsr (armCond w) (regAt w 16) (regAt w 12) (regAt w 8) (armShift w) (regAt w 0)⟩,
  ⟨0x0FF00000, 0x03300000, fun w => .teqImm (armCond w) (regAt w 16) (regAt w 12) (w.extractLsb' 8 4) (w.extractLsb' 0 8)⟩,
  ⟨0x0FF00010, 0x01300000, fun w => .teqRsi (armCond w) (regAt w 16) (regAt w 12) (w.extractLsb' 7 5) (armShift w) (regAt w 0)⟩,
  ⟨0x0FF00090, 0x01300010, fun w => .teqRsr (armCond w) (regAt w 16) (regAt w 12) (regAt w 8) (armShift w) (regAt w 0)⟩,
  ⟨0x0FF00000, 0x03500000, fun w => .cmpImm (armCond w) (regAt w 16) (regAt w 12) (w.extractLsb' 8 4) (w.extractLsb' 0 8)⟩,
  ⟨0x0FF00010, 0x01500000, fun w => .cmpRsi (armCond w) (regAt w 16) (regAt w 12) (w.extractLsb' 7 5) (armShift w) (regAt w 0)⟩,
  ⟨0x0FF00090, 0x01500010, fun w => .cmpRsr (armCond w) (regAt w 16) (regAt w 12) (regAt w 8) (armShift w) (regAt w 0)⟩,
  ⟨0x0FF00000, 0x03700000, fun w => .cmnImm (armCond w) (regAt w 16) (regAt w 12) (w.extractLsb' 8 4) (w.extractLsb' 0 8)⟩,
  ⟨0x0FF00010, 0x01700000, fun w => .cmnRsi (armCond w) (regAt w 16) (regAt w 12) (w.extractLsb' 7 5) (armShift w) (regAt w 0)⟩,
  ⟨0x0FF00090, 0x01700010, fun w => .cmnRsr (armCond w) (regAt w 16) (regAt w 12) (regAt w 8) (armShift w) (regAt w 0)⟩]

/-- Data processing, ORR to MVN (30 R306 step 5). -/
def dataProcRows3 : List ArmRow := [
  ⟨0x0FE00000, 0x03800000, fun w => .orrImm (armCond w) (bitAt w 20) (regAt w 16) (regAt w 12) (w.extractLsb' 8 4) (w.extractLsb' 0 8)⟩,
  ⟨0x0FE00010, 0x01800000, fun w => .orrRsi (armCond w) (bitAt w 20) (regAt w 16) (regAt w 12) (w.extractLsb' 7 5) (armShift w) (regAt w 0)⟩,
  ⟨0x0FE00090, 0x01800010, fun w => .orrRsr (armCond w) (bitAt w 20) (regAt w 16) (regAt w 12) (regAt w 8) (armShift w) (regAt w 0)⟩,
  ⟨0x0FE00000, 0x03A00000, fun w => .movImm (armCond w) (bitAt w 20) (regAt w 16) (regAt w 12) (w.extractLsb' 8 4) (w.extractLsb' 0 8)⟩,
  ⟨0x0FE00010, 0x01A00000, fun w => .movRsi (armCond w) (bitAt w 20) (regAt w 16) (regAt w 12) (w.extractLsb' 7 5) (armShift w) (regAt w 0)⟩,
  ⟨0x0FE00090, 0x01A00010, fun w => .movRsr (armCond w) (bitAt w 20) (regAt w 16) (regAt w 12) (regAt w 8) (armShift w) (regAt w 0)⟩,
  ⟨0x0FE00000, 0x03C00000, fun w => .bicImm (armCond w) (bitAt w 20) (regAt w 16) (regAt w 12) (w.extractLsb' 8 4) (w.extractLsb' 0 8)⟩,
  ⟨0x0FE00010, 0x01C00000, fun w => .bicRsi (armCond w) (bitAt w 20) (regAt w 16) (regAt w 12) (w.extractLsb' 7 5) (armShift w) (regAt w 0)⟩,
  ⟨0x0FE00090, 0x01C00010, fun w => .bicRsr (armCond w) (bitAt w 20) (regAt w 16) (regAt w 12) (regAt w 8) (armShift w) (regAt w 0)⟩,
  ⟨0x0FE00000, 0x03E00000, fun w => .mvnImm (armCond w) (bitAt w 20) (regAt w 16) (regAt w 12) (w.extractLsb' 8 4) (w.extractLsb' 0 8)⟩,
  ⟨0x0FE00010, 0x01E00000, fun w => .mvnRsi (armCond w) (bitAt w 20) (regAt w 16) (regAt w 12) (w.extractLsb' 7 5) (armShift w) (regAt w 0)⟩,
  ⟨0x0FE00090, 0x01E00010, fun w => .mvnRsr (armCond w) (bitAt w 20) (regAt w 16) (regAt w 12) (regAt w 8) (armShift w) (regAt w 0)⟩]

/-- Single data transfers (30 R306 steps 6 and 7). -/
def singleRows : List ArmRow := [
  ⟨0x0E000010, 0x06000010, fun w => .und011 w⟩,
  ⟨0x0D500000, 0x05100000, fun w => .ldrPre (armCond w) (bitAt w 23) (bitAt w 21) (regAt w 16) (regAt w 12) (armOffset w)⟩,
  ⟨0x0D700000, 0x04100000, fun w => .ldrPost (armCond w) (bitAt w 23) (regAt w 16) (regAt w 12) (armOffset w)⟩,
  ⟨0x0D700000, 0x04300000, fun w => .ldrt (armCond w) (bitAt w 23) (regAt w 16) (regAt w 12) (armOffset w)⟩,
  ⟨0x0D500000, 0x05000000, fun w => .strPre (armCond w) (bitAt w 23) (bitAt w 21) (regAt w 16) (regAt w 12) (armOffset w)⟩,
  ⟨0x0D700000, 0x04000000, fun w => .strPost (armCond w) (bitAt w 23) (regAt w 16) (regAt w 12) (armOffset w)⟩,
  ⟨0x0D700000, 0x04200000, fun w => .strt (armCond w) (bitAt w 23) (regAt w 16) (regAt w 12) (armOffset w)⟩,
  ⟨0x0D500000, 0x05500000, fun w => .ldrbPre (armCond w) (bitAt w 23) (bitAt w 21) (regAt w 16) (regAt w 12) (armOffset w)⟩,
  ⟨0x0D700000, 0x04500000, fun w => .ldrbPost (armCond w) (bitAt w 23) (regAt w 16) (regAt w 12) (armOffset w)⟩,
  ⟨0x0D700000, 0x04700000, fun w => .ldrbt (armCond w) (bitAt w 23) (regAt w 16) (regAt w 12) (armOffset w)⟩,
  ⟨0x0D500000, 0x05400000, fun w => .strbPre (armCond w) (bitAt w 23) (bitAt w 21) (regAt w 16) (regAt w 12) (armOffset w)⟩,
  ⟨0x0D700000, 0x04400000, fun w => .strbPost (armCond w) (bitAt w 23) (regAt w 16) (regAt w 12) (armOffset w)⟩,
  ⟨0x0D700000, 0x04600000, fun w => .strbt (armCond w) (bitAt w 23) (regAt w 16) (regAt w 12) (armOffset w)⟩]

/-- Block transfers, branches, coprocessor space and SWI (30 R306 steps 8 to 11). -/
def blockBranchRows : List ArmRow := [
  ⟨0x0E100000, 0x08100000, fun w => .ldm (armCond w) (bitAt w 24) (bitAt w 23) (bitAt w 22) (bitAt w 21) (regAt w 16) (w.extractLsb' 0 16)⟩,
  ⟨0x0E100000, 0x08000000, fun w => .stm (armCond w) (bitAt w 24) (bitAt w 23) (bitAt w 22) (bitAt w 21) (regAt w 16) (w.extractLsb' 0 16)⟩,
  ⟨0x0F000000, 0x0A000000, fun w => .b (armCond w) (w.extractLsb' 0 24)⟩,
  ⟨0x0F000000, 0x0B000000, fun w => .bl (armCond w) (w.extractLsb' 0 24)⟩,
  ⟨0x0E000000, 0x0C000000, fun w => .undCopTransfer w⟩,
  ⟨0x0F000000, 0x0E000000, fun w => .undCopOp w⟩,
  ⟨0x0F000000, 0x0F000000, fun w => .swi (armCond w) (w.extractLsb' 0 24)⟩]

/-- Thumb formats 1 to 3. -/
def thumbAluRows0 : List ThumbRow := [
  ⟨0xF800, 0x0000, fun h => .tLslImm (h.extractLsb' 6 5) (loRegAt h 3) (loRegAt h 0)⟩,
  ⟨0xF800, 0x0800, fun h => .tLsrImm (h.extractLsb' 6 5) (loRegAt h 3) (loRegAt h 0)⟩,
  ⟨0xF800, 0x1000, fun h => .tAsrImm (h.extractLsb' 6 5) (loRegAt h 3) (loRegAt h 0)⟩,
  ⟨0xFE00, 0x1800, fun h => .tAddReg (loRegAt h 6) (loRegAt h 3) (loRegAt h 0)⟩,
  ⟨0xFE00, 0x1A00, fun h => .tSubReg (loRegAt h 6) (loRegAt h 3) (loRegAt h 0)⟩,
  ⟨0xFE00, 0x1C00, fun h => .tAddImm3 (h.extractLsb' 6 3) (loRegAt h 3) (loRegAt h 0)⟩,
  ⟨0xFE00, 0x1E00, fun h => .tSubImm3 (h.extractLsb' 6 3) (loRegAt h 3) (loRegAt h 0)⟩,
  ⟨0xF800, 0x2000, fun h => .tMovImm (loRegAt h 8) (h.extractLsb' 0 8)⟩,
  ⟨0xF800, 0x2800, fun h => .tCmpImm (loRegAt h 8) (h.extractLsb' 0 8)⟩,
  ⟨0xF800, 0x3000, fun h => .tAddImm8 (loRegAt h 8) (h.extractLsb' 0 8)⟩,
  ⟨0xF800, 0x3800, fun h => .tSubImm8 (loRegAt h 8) (h.extractLsb' 0 8)⟩]

/-- Thumb format 4. -/
def thumbAluRows1 : List ThumbRow := [
  ⟨0xFFC0, 0x4000, fun h => .tAnd (loRegAt h 3) (loRegAt h 0)⟩,
  ⟨0xFFC0, 0x4040, fun h => .tEor (loRegAt h 3) (loRegAt h 0)⟩,
  ⟨0xFFC0, 0x4080, fun h => .tLslReg (loRegAt h 3) (loRegAt h 0)⟩,
  ⟨0xFFC0, 0x40C0, fun h => .tLsrReg (loRegAt h 3) (loRegAt h 0)⟩,
  ⟨0xFFC0, 0x4100, fun h => .tAsrReg (loRegAt h 3) (loRegAt h 0)⟩,
  ⟨0xFFC0, 0x4140, fun h => .tAdc (loRegAt h 3) (loRegAt h 0)⟩,
  ⟨0xFFC0, 0x4180, fun h => .tSbc (loRegAt h 3) (loRegAt h 0)⟩,
  ⟨0xFFC0, 0x41C0, fun h => .tRor (loRegAt h 3) (loRegAt h 0)⟩,
  ⟨0xFFC0, 0x4200, fun h => .tTst (loRegAt h 3) (loRegAt h 0)⟩,
  ⟨0xFFC0, 0x4240, fun h => .tNeg (loRegAt h 3) (loRegAt h 0)⟩,
  ⟨0xFFC0, 0x4280, fun h => .tCmpReg (loRegAt h 3) (loRegAt h 0)⟩,
  ⟨0xFFC0, 0x42C0, fun h => .tCmn (loRegAt h 3) (loRegAt h 0)⟩,
  ⟨0xFFC0, 0x4300, fun h => .tOrr (loRegAt h 3) (loRegAt h 0)⟩,
  ⟨0xFFC0, 0x4340, fun h => .tMul (loRegAt h 3) (loRegAt h 0)⟩,
  ⟨0xFFC0, 0x4380, fun h => .tBic (loRegAt h 3) (loRegAt h 0)⟩,
  ⟨0xFFC0, 0x43C0, fun h => .tMvn (loRegAt h 3) (loRegAt h 0)⟩]

/-- Thumb formats 5 and 6. -/
def thumbHiRows : List ThumbRow := [
  ⟨0xFF00, 0x4400, fun h => .tAddHi (hiRegAt h 6 3) (hiRegAt h 7 0)⟩,
  ⟨0xFF00, 0x4500, fun h => .tCmpHi (hiRegAt h 6 3) (hiRegAt h 7 0)⟩,
  ⟨0xFF00, 0x4600, fun h => .tMovHi (hiRegAt h 6 3) (hiRegAt h 7 0)⟩,
  ⟨0xFF00, 0x4700, fun h => .tBx (bitAt h 7) (hiRegAt h 6 3) (loRegAt h 0)⟩,
  ⟨0xF800, 0x4800, fun h => .tLdrPc (loRegAt h 8) (h.extractLsb' 0 8)⟩]

/-- Thumb formats 7 and 8. -/
def thumbRegRows : List ThumbRow := [
  ⟨0xFE00, 0x5000, fun h => .tStrReg (loRegAt h 6) (loRegAt h 3) (loRegAt h 0)⟩,
  ⟨0xFE00, 0x5200, fun h => .tStrhReg (loRegAt h 6) (loRegAt h 3) (loRegAt h 0)⟩,
  ⟨0xFE00, 0x5400, fun h => .tStrbReg (loRegAt h 6) (loRegAt h 3) (loRegAt h 0)⟩,
  ⟨0xFE00, 0x5600, fun h => .tLdsb (loRegAt h 6) (loRegAt h 3) (loRegAt h 0)⟩,
  ⟨0xFE00, 0x5800, fun h => .tLdrReg (loRegAt h 6) (loRegAt h 3) (loRegAt h 0)⟩,
  ⟨0xFE00, 0x5A00, fun h => .tLdrhReg (loRegAt h 6) (loRegAt h 3) (loRegAt h 0)⟩,
  ⟨0xFE00, 0x5C00, fun h => .tLdrbReg (loRegAt h 6) (loRegAt h 3) (loRegAt h 0)⟩,
  ⟨0xFE00, 0x5E00, fun h => .tLdsh (loRegAt h 6) (loRegAt h 3) (loRegAt h 0)⟩]

/-- Thumb formats 9 to 12. -/
def thumbImmRows : List ThumbRow := [
  ⟨0xF800, 0x6000, fun h => .tStrImm (h.extractLsb' 6 5) (loRegAt h 3) (loRegAt h 0)⟩,
  ⟨0xF800, 0x6800, fun h => .tLdrImm (h.extractLsb' 6 5) (loRegAt h 3) (loRegAt h 0)⟩,
  ⟨0xF800, 0x7000, fun h => .tStrbImm (h.extractLsb' 6 5) (loRegAt h 3) (loRegAt h 0)⟩,
  ⟨0xF800, 0x7800, fun h => .tLdrbImm (h.extractLsb' 6 5) (loRegAt h 3) (loRegAt h 0)⟩,
  ⟨0xF800, 0x8000, fun h => .tStrhImm (h.extractLsb' 6 5) (loRegAt h 3) (loRegAt h 0)⟩,
  ⟨0xF800, 0x8800, fun h => .tLdrhImm (h.extractLsb' 6 5) (loRegAt h 3) (loRegAt h 0)⟩,
  ⟨0xF800, 0x9000, fun h => .tStrSp (loRegAt h 8) (h.extractLsb' 0 8)⟩,
  ⟨0xF800, 0x9800, fun h => .tLdrSp (loRegAt h 8) (h.extractLsb' 0 8)⟩,
  ⟨0xF800, 0xA000, fun h => .tAddPc (loRegAt h 8) (h.extractLsb' 0 8)⟩,
  ⟨0xF800, 0xA800, fun h => .tAddSp (loRegAt h 8) (h.extractLsb' 0 8)⟩]

/-- Thumb formats 13 and 14 and the reserved ranges among them. -/
def thumbStackRows : List ThumbRow := [
  ⟨0xFF80, 0xB000, fun h => .tAddSpImm (h.extractLsb' 0 7)⟩,
  ⟨0xFF80, 0xB080, fun h => .tSubSpImm (h.extractLsb' 0 7)⟩,
  ⟨0xFF00, 0xB100, fun h => .tUndB1 h⟩,
  ⟨0xFE00, 0xB200, fun h => .tUndB2 h⟩,
  ⟨0xFE00, 0xB400, fun h => .tPush (bitAt h 8) (h.extractLsb' 0 8)⟩,
  ⟨0xFE00, 0xB600, fun h => .tUndB6 h⟩,
  ⟨0xFC00, 0xB800, fun h => .tUndB8 h⟩,
  ⟨0xFE00, 0xBC00, fun h => .tPop (bitAt h 8) (h.extractLsb' 0 8)⟩,
  ⟨0xFE00, 0xBE00, fun h => .tUndBE h⟩]

/-- Thumb formats 15 to 19 and the reserved ranges among them. -/
def thumbBlockRows : List ThumbRow := [
  ⟨0xF800, 0xC000, fun h => .tStmia (loRegAt h 8) (h.extractLsb' 0 8)⟩,
  ⟨0xF800, 0xC800, fun h => .tLdmia (loRegAt h 8) (h.extractLsb' 0 8)⟩,
  ⟨0xFF00, 0xDE00, fun h => .tUndDE h⟩,
  ⟨0xFF00, 0xDF00, fun h => .tSwi (h.extractLsb' 0 8)⟩,
  ⟨0xF000, 0xD000, fun h => .tBcond (condOfBits (h.extractLsb' 8 4)) (h.extractLsb' 0 8)⟩,
  ⟨0xF800, 0xE000, fun h => .tB (h.extractLsb' 0 11)⟩,
  ⟨0xF800, 0xE800, fun h => .tUndE8 h⟩,
  ⟨0xF800, 0xF000, fun h => .tBlHi (h.extractLsb' 0 11)⟩,
  ⟨0xF800, 0xF800, fun h => .tBlLo (h.extractLsb' 0 11)⟩]

/-- The ARM rows of spec/opcode_table.json, in its order. -/
def armRows : List ArmRow :=
  mulSwapRows ++ halfwordRows ++ psrRows ++ dataProcRows0 ++ dataProcRows1 ++ dataProcRows2 ++ dataProcRows3 ++ singleRows ++ blockBranchRows

/-- The Thumb rows of spec/opcode_table.json, in its order. -/
def thumbRows : List ThumbRow :=
  thumbAluRows0 ++ thumbAluRows1 ++ thumbHiRows ++ thumbRegRows ++ thumbImmRows ++ thumbStackRows ++ thumbBlockRows

/-- The instruction of the first row the word matches. -/
def firstArmRow (rows : List ArmRow) (w : Word) : Option Instr :=
  match rows with
  | [] => none
  | r :: rest => if w &&& r.mask = r.val then some (r.build w) else firstArmRow rest w

/-- The instruction of the first row the halfword matches. -/
def firstThumbRow (rows : List ThumbRow) (h : Half) : Option Instr :=
  match rows with
  | [] => none
  | r :: rest => if h &&& r.mask = r.val then some (r.build h) else firstThumbRow rest h

/-- The decoding of one instruction word (30 R306, R308). The T bit of CPSR says which encoding a word is of (30 R300). -/
def decode (code : Code) : Option Instr :=
  match code with
  | .arm w => firstArmRow armRows w
  | .thumb h => firstThumbRow thumbRows h

/-! ### Bytes -/

/-- Why bytes decode to no instruction. -/
inductive DecodeError where
  | truncated                -- fewer bytes than an instruction of the current encoding has
  | noRow (code : Code)      -- the word matches no row (30 R320); no word does
  deriving DecidableEq, Repr

/-- The instruction word at the head of the bytes, little-endian (20 R210, R213), and the rest. -/
def codeOfBytes (thumb : Bool) (bytes : List Byte) : Option (Code × List Byte) :=
  match thumb, bytes with
  | true, b0 :: b1 :: rest => some (.thumb (b1 ++ b0), rest)
  | false, b0 :: b1 :: b2 :: b3 :: rest => some (.arm (b3 ++ b2 ++ b1 ++ b0), rest)
  | _, _ => none

/-- The instruction at the head of the bytes and the rest, or the reason there is none. -/
def decodeBytes (thumb : Bool) (bytes : List Byte) : Except DecodeError (Instr × List Byte) :=
  match codeOfBytes thumb bytes with
  | none => .error .truncated
  | some (code, rest) =>
    match decode code with
    | none => .error (.noRow code)
    | some i => .ok (i, rest)

/-- The `k` low bytes of `w`, lowest first. -/
def leBytes (k w : Nat) : List Byte :=
  match k with
  | 0 => []
  | k + 1 => BitVec.ofNat 8 w :: leBytes k (w / 256)

/-- An instruction of at most 16 bits in the opcode table is a Thumb one (30 R300). -/
def isThumbWidth (nbits : Nat) : Bool := nbits ≤ 16

/-- The instruction the decoder reads from the word `w` of a table row of `nbits` bits. -/
def decodeTableWord (nbits w : Nat) : Option Instr :=
  match decodeBytes (isThumbWidth nbits) (leBytes (if isThumbWidth nbits then 2 else 4) w) with
  | .ok (i, _) => some i
  | .error _ => none

/-! ### The encoder -/

/-- The bits of a register number. -/
def regBits (r : Reg) : BitVec 4 := BitVec.ofFin r

/-- The bits of a low-register number. -/
def loRegBits (r : LoReg) : BitVec 3 := BitVec.ofFin r

/-- The one bit of a Bool. -/
def flagBit (b : Bool) : BitVec 1 := BitVec.ofBool b

/-- A data-processing word with an immediate (30 R301). -/
def encDpImm (c : Cond) (op : BitVec 4) (sf : Bool) (rn rd : Reg) (rot : BitVec 4) (imm8 : BitVec 8) : Word :=
  condBits c ++ 0b001#3 ++ op ++ flagBit sf ++ regBits rn ++ regBits rd ++ rot ++ imm8

/-- A data-processing word with a register shifted by an immediate (30 R301). -/
def encDpRsi (c : Cond) (op : BitVec 4) (sf : Bool) (rn rd : Reg) (shImm : BitVec 5) (sh : ShiftType) (rm : Reg) : Word :=
  condBits c ++ 0b000#3 ++ op ++ flagBit sf ++ regBits rn ++ regBits rd ++ shImm ++ shiftBits sh ++ 0b0#1 ++ regBits rm

/-- A data-processing word with a register shifted by a register (30 R301). -/
def encDpRsr (c : Cond) (op : BitVec 4) (sf : Bool) (rn rd rs : Reg) (sh : ShiftType) (rm : Reg) : Word :=
  condBits c ++ 0b000#3 ++ op ++ flagBit sf ++ regBits rn ++ regBits rd ++ regBits rs ++ 0b0#1 ++ shiftBits sh ++ 0b1#1 ++ regBits rm

/-- A multiply word; `op` is bits 27:21 (30 R301). -/
def encMul (c : Cond) (op : BitVec 7) (sf : Bool) (r19 r15 rs rm : Reg) : Word :=
  condBits c ++ op ++ flagBit sf ++ regBits r19 ++ regBits r15 ++ regBits rs ++ 0b1001#4 ++ regBits rm

/-- A swap word (30 R301). -/
def encSwp (c : Cond) (byte : Bool) (rn rd rm : Reg) : Word :=
  condBits c ++ 0b00010#5 ++ flagBit byte ++ 0b00#2 ++ regBits rn ++ regBits rd ++ 0b00001001#8 ++ regBits rm

/-- The I bit, bits 11:8 and bits 3:0 of a halfword transfer's offset (30 R301, R303). -/
def halfOffsetBits (off : HalfOffset) : BitVec 1 × BitVec 4 × BitVec 4 :=
  match off with
  | .imm v => (1#1, v.extractLsb' 4 4, v.extractLsb' 0 4)
  | .reg rm => (0#1, 0#4, regBits rm)

/-- A halfword or signed transfer word (30 R301). -/
def encHalf (c : Cond) (p u w l : Bool) (sh : BitVec 2) (rn rd : Reg) (off : HalfOffset) : Word :=
  condBits c ++ 0b000#3 ++ flagBit p ++ flagBit u ++ (halfOffsetBits off).1 ++ flagBit w ++ flagBit l ++ regBits rn ++ regBits rd ++
    (halfOffsetBits off).2.1 ++ 0b1#1 ++ sh ++ 0b1#1 ++ (halfOffsetBits off).2.2

/-- The I bit and bits 11:0 of a single transfer's offset (30 R301). -/
def offsetBits (off : Offset) : BitVec 1 × BitVec 12 :=
  match off with
  | .imm v => (0#1, v)
  | .reg shImm sh rm => (1#1, shImm ++ shiftBits sh ++ 0b0#1 ++ regBits rm)

/-- A single data transfer word (30 R301). -/
def encSingle (c : Cond) (p u byte w l : Bool) (rn rd : Reg) (off : Offset) : Word :=
  condBits c ++ 0b01#2 ++ (offsetBits off).1 ++ flagBit p ++ flagBit u ++ flagBit byte ++ flagBit w ++ flagBit l ++ regBits rn ++
    regBits rd ++ (offsetBits off).2

/-- A block transfer word (30 R301). -/
def encBlock (c : Cond) (p u sb w l : Bool) (rn : Reg) (list : BitVec 16) : Word :=
  condBits c ++ 0b100#3 ++ flagBit p ++ flagBit u ++ flagBit sb ++ flagBit w ++ flagBit l ++ regBits rn ++ list

/-- A Thumb halfword of a 7-bit opcode and three 3-bit fields (30 R307, formats 2, 7 and 8). -/
def enc333 (op : BitVec 7) (a : BitVec 3) (b d : LoReg) : Half := op ++ a ++ loRegBits b ++ loRegBits d

/-- A Thumb halfword of a 5-bit opcode, a 5-bit immediate and two registers (30 R307, formats 1, 9 and 10). -/
def enc533 (op : BitVec 5) (a : BitVec 5) (b d : LoReg) : Half := op ++ a ++ loRegBits b ++ loRegBits d

/-- A Thumb halfword of a 5-bit opcode, a register and 8 bits (30 R307, formats 3, 6, 11, 12 and 15). -/
def enc38 (op : BitVec 5) (d : LoReg) (v : BitVec 8) : Half := op ++ loRegBits d ++ v

/-- A Thumb halfword of a 10-bit opcode and two registers (30 R307, format 4). -/
def encAlu (op : BitVec 10) (b d : LoReg) : Half := op ++ loRegBits b ++ loRegBits d

/-- A Thumb high-register halfword (30 R307, format 5). -/
def encHi (op : BitVec 8) (rs rd : Reg) : Half :=
  op ++ (regBits rd).extractLsb' 3 1 ++ regBits rs ++ (regBits rd).extractLsb' 0 3

/-- The word of an instruction, with the SBO and SBZ fields as 30 R301 shows them. A decode anomaly is its own word. -/
def encode (i : Instr) : Code :=
  match i with
  | .mul c sf rd rn rs rm => .arm (encMul c 0b0000000#7 sf rd rn rs rm)
  | .mla c sf rd rn rs rm => .arm (encMul c 0b0000001#7 sf rd rn rs rm)
  | .umull c sf rdHi rdLo rs rm => .arm (encMul c 0b0000100#7 sf rdHi rdLo rs rm)
  | .umlal c sf rdHi rdLo rs rm => .arm (encMul c 0b0000101#7 sf rdHi rdLo rs rm)
  | .smull c sf rdHi rdLo rs rm => .arm (encMul c 0b0000110#7 sf rdHi rdLo rs rm)
  | .smlal c sf rdHi rdLo rs rm => .arm (encMul c 0b0000111#7 sf rdHi rdLo rs rm)
  | .swp c rn rd rm => .arm (encSwp c false rn rd rm)
  | .swpb c rn rd rm => .arm (encSwp c true rn rd rm)
  | .undMulSwap word => .arm word
  | .ldrh c p u w rn rd off => .arm (encHalf c p u w true 0b01#2 rn rd off)
  | .ldrsb c p u w rn rd off => .arm (encHalf c p u w true 0b10#2 rn rd off)
  | .ldrsh c p u w rn rd off => .arm (encHalf c p u w true 0b11#2 rn rd off)
  | .strh c p u w rn rd off => .arm (encHalf c p u w false 0b01#2 rn rd off)
  | .undHalfword word => .arm word
  | .mrs c r rd => .arm (condBits c ++ 0b00010#5 ++ flagBit r ++ 0b00#2 ++ 0b1111#4 ++ regBits rd ++ 0x000#12)
  | .msrReg c r mask rm => .arm (condBits c ++ 0b00010#5 ++ flagBit r ++ 0b10#2 ++ mask ++ 0b1111#4 ++ 0x00#8 ++ regBits rm)
  | .bx c rm => .arm (condBits c ++ 0x12FFF1#24 ++ regBits rm)
  | .undPsr word => .arm word
  | .msrImm c r mask rot imm8 => .arm (condBits c ++ 0b00110#5 ++ flagBit r ++ 0b10#2 ++ mask ++ 0b1111#4 ++ rot ++ imm8)
  | .undMsrImm word => .arm word
  | .andImm c sf rn rd rot imm8 => .arm (encDpImm c 0b0000#4 sf rn rd rot imm8)
  | .andRsi c sf rn rd shImm sh rm => .arm (encDpRsi c 0b0000#4 sf rn rd shImm sh rm)
  | .andRsr c sf rn rd rs sh rm => .arm (encDpRsr c 0b0000#4 sf rn rd rs sh rm)
  | .eorImm c sf rn rd rot imm8 => .arm (encDpImm c 0b0001#4 sf rn rd rot imm8)
  | .eorRsi c sf rn rd shImm sh rm => .arm (encDpRsi c 0b0001#4 sf rn rd shImm sh rm)
  | .eorRsr c sf rn rd rs sh rm => .arm (encDpRsr c 0b0001#4 sf rn rd rs sh rm)
  | .subImm c sf rn rd rot imm8 => .arm (encDpImm c 0b0010#4 sf rn rd rot imm8)
  | .subRsi c sf rn rd shImm sh rm => .arm (encDpRsi c 0b0010#4 sf rn rd shImm sh rm)
  | .subRsr c sf rn rd rs sh rm => .arm (encDpRsr c 0b0010#4 sf rn rd rs sh rm)
  | .rsbImm c sf rn rd rot imm8 => .arm (encDpImm c 0b0011#4 sf rn rd rot imm8)
  | .rsbRsi c sf rn rd shImm sh rm => .arm (encDpRsi c 0b0011#4 sf rn rd shImm sh rm)
  | .rsbRsr c sf rn rd rs sh rm => .arm (encDpRsr c 0b0011#4 sf rn rd rs sh rm)
  | .addImm c sf rn rd rot imm8 => .arm (encDpImm c 0b0100#4 sf rn rd rot imm8)
  | .addRsi c sf rn rd shImm sh rm => .arm (encDpRsi c 0b0100#4 sf rn rd shImm sh rm)
  | .addRsr c sf rn rd rs sh rm => .arm (encDpRsr c 0b0100#4 sf rn rd rs sh rm)
  | .adcImm c sf rn rd rot imm8 => .arm (encDpImm c 0b0101#4 sf rn rd rot imm8)
  | .adcRsi c sf rn rd shImm sh rm => .arm (encDpRsi c 0b0101#4 sf rn rd shImm sh rm)
  | .adcRsr c sf rn rd rs sh rm => .arm (encDpRsr c 0b0101#4 sf rn rd rs sh rm)
  | .sbcImm c sf rn rd rot imm8 => .arm (encDpImm c 0b0110#4 sf rn rd rot imm8)
  | .sbcRsi c sf rn rd shImm sh rm => .arm (encDpRsi c 0b0110#4 sf rn rd shImm sh rm)
  | .sbcRsr c sf rn rd rs sh rm => .arm (encDpRsr c 0b0110#4 sf rn rd rs sh rm)
  | .rscImm c sf rn rd rot imm8 => .arm (encDpImm c 0b0111#4 sf rn rd rot imm8)
  | .rscRsi c sf rn rd shImm sh rm => .arm (encDpRsi c 0b0111#4 sf rn rd shImm sh rm)
  | .rscRsr c sf rn rd rs sh rm => .arm (encDpRsr c 0b0111#4 sf rn rd rs sh rm)
  | .tstImm c rn rd rot imm8 => .arm (encDpImm c 0b1000#4 true rn rd rot imm8)
  | .tstRsi c rn rd shImm sh rm => .arm (encDpRsi c 0b1000#4 true rn rd shImm sh rm)
  | .tstRsr c rn rd rs sh rm => .arm (encDpRsr c 0b1000#4 true rn rd rs sh rm)
  | .teqImm c rn rd rot imm8 => .arm (encDpImm c 0b1001#4 true rn rd rot imm8)
  | .teqRsi c rn rd shImm sh rm => .arm (encDpRsi c 0b1001#4 true rn rd shImm sh rm)
  | .teqRsr c rn rd rs sh rm => .arm (encDpRsr c 0b1001#4 true rn rd rs sh rm)
  | .cmpImm c rn rd rot imm8 => .arm (encDpImm c 0b1010#4 true rn rd rot imm8)
  | .cmpRsi c rn rd shImm sh rm => .arm (encDpRsi c 0b1010#4 true rn rd shImm sh rm)
  | .cmpRsr c rn rd rs sh rm => .arm (encDpRsr c 0b1010#4 true rn rd rs sh rm)
  | .cmnImm c rn rd rot imm8 => .arm (encDpImm c 0b1011#4 true rn rd rot imm8)
  | .cmnRsi c rn rd shImm sh rm => .arm (encDpRsi c 0b1011#4 true rn rd shImm sh rm)
  | .cmnRsr c rn rd rs sh rm => .arm (encDpRsr c 0b1011#4 true rn rd rs sh rm)
  | .orrImm c sf rn rd rot imm8 => .arm (encDpImm c 0b1100#4 sf rn rd rot imm8)
  | .orrRsi c sf rn rd shImm sh rm => .arm (encDpRsi c 0b1100#4 sf rn rd shImm sh rm)
  | .orrRsr c sf rn rd rs sh rm => .arm (encDpRsr c 0b1100#4 sf rn rd rs sh rm)
  | .movImm c sf rn rd rot imm8 => .arm (encDpImm c 0b1101#4 sf rn rd rot imm8)
  | .movRsi c sf rn rd shImm sh rm => .arm (encDpRsi c 0b1101#4 sf rn rd shImm sh rm)
  | .movRsr c sf rn rd rs sh rm => .arm (encDpRsr c 0b1101#4 sf rn rd rs sh rm)
  | .bicImm c sf rn rd rot imm8 => .arm (encDpImm c 0b1110#4 sf rn rd rot imm8)
  | .bicRsi c sf rn rd shImm sh rm => .arm (encDpRsi c 0b1110#4 sf rn rd shImm sh rm)
  | .bicRsr c sf rn rd rs sh rm => .arm (encDpRsr c 0b1110#4 sf rn rd rs sh rm)
  | .mvnImm c sf rn rd rot imm8 => .arm (encDpImm c 0b1111#4 sf rn rd rot imm8)
  | .mvnRsi c sf rn rd shImm sh rm => .arm (encDpRsi c 0b1111#4 sf rn rd shImm sh rm)
  | .mvnRsr c sf rn rd rs sh rm => .arm (encDpRsr c 0b1111#4 sf rn rd rs sh rm)
  | .und011 word => .arm word
  | .ldrPre c u w rn rd off => .arm (encSingle c true u false w true rn rd off)
  | .ldrPost c u rn rd off => .arm (encSingle c false u false false true rn rd off)
  | .ldrt c u rn rd off => .arm (encSingle c false u false true true rn rd off)
  | .strPre c u w rn rd off => .arm (encSingle c true u false w false rn rd off)
  | .strPost c u rn rd off => .arm (encSingle c false u false false false rn rd off)
  | .strt c u rn rd off => .arm (encSingle c false u false true false rn rd off)
  | .ldrbPre c u w rn rd off => .arm (encSingle c true u true w true rn rd off)
  | .ldrbPost c u rn rd off => .arm (encSingle c false u true false true rn rd off)
  | .ldrbt c u rn rd off => .arm (encSingle c false u true true true rn rd off)
  | .strbPre c u w rn rd off => .arm (encSingle c true u true w false rn rd off)
  | .strbPost c u rn rd off => .arm (encSingle c false u true false false rn rd off)
  | .strbt c u rn rd off => .arm (encSingle c false u true true false rn rd off)
  | .ldm c p u sb w rn list => .arm (encBlock c p u sb w true rn list)
  | .stm c p u sb w rn list => .arm (encBlock c p u sb w false rn list)
  | .b c off24 => .arm (condBits c ++ 0b1010#4 ++ off24)
  | .bl c off24 => .arm (condBits c ++ 0b1011#4 ++ off24)
  | .undCopTransfer word => .arm word
  | .undCopOp word => .arm word
  | .swi c comment24 => .arm (condBits c ++ 0b1111#4 ++ comment24)
  | .tLslImm off5 rs rd => .thumb (enc533 0b00000#5 off5 rs rd)
  | .tLsrImm off5 rs rd => .thumb (enc533 0b00001#5 off5 rs rd)
  | .tAsrImm off5 rs rd => .thumb (enc533 0b00010#5 off5 rs rd)
  | .tAddReg rn rs rd => .thumb (enc333 0b0001100#7 (loRegBits rn) rs rd)
  | .tSubReg rn rs rd => .thumb (enc333 0b0001101#7 (loRegBits rn) rs rd)
  | .tAddImm3 off3 rs rd => .thumb (enc333 0b0001110#7 off3 rs rd)
  | .tSubImm3 off3 rs rd => .thumb (enc333 0b0001111#7 off3 rs rd)
  | .tMovImm rd off8 => .thumb (enc38 0b00100#5 rd off8)
  | .tCmpImm rd off8 => .thumb (enc38 0b00101#5 rd off8)
  | .tAddImm8 rd off8 => .thumb (enc38 0b00110#5 rd off8)
  | .tSubImm8 rd off8 => .thumb (enc38 0b00111#5 rd off8)
  | .tAnd rs rd => .thumb (encAlu 0b0100000000#10 rs rd)
  | .tEor rs rd => .thumb (encAlu 0b0100000001#10 rs rd)
  | .tLslReg rs rd => .thumb (encAlu 0b0100000010#10 rs rd)
  | .tLsrReg rs rd => .thumb (encAlu 0b0100000011#10 rs rd)
  | .tAsrReg rs rd => .thumb (encAlu 0b0100000100#10 rs rd)
  | .tAdc rs rd => .thumb (encAlu 0b0100000101#10 rs rd)
  | .tSbc rs rd => .thumb (encAlu 0b0100000110#10 rs rd)
  | .tRor rs rd => .thumb (encAlu 0b0100000111#10 rs rd)
  | .tTst rs rd => .thumb (encAlu 0b0100001000#10 rs rd)
  | .tNeg rs rd => .thumb (encAlu 0b0100001001#10 rs rd)
  | .tCmpReg rs rd => .thumb (encAlu 0b0100001010#10 rs rd)
  | .tCmn rs rd => .thumb (encAlu 0b0100001011#10 rs rd)
  | .tOrr rs rd => .thumb (encAlu 0b0100001100#10 rs rd)
  | .tMul rs rd => .thumb (encAlu 0b0100001101#10 rs rd)
  | .tBic rs rd => .thumb (encAlu 0b0100001110#10 rs rd)
  | .tMvn rs rd => .thumb (encAlu 0b0100001111#10 rs rd)
  | .tAddHi rs rd => .thumb (encHi 0b01000100#8 rs rd)
  | .tCmpHi rs rd => .thumb (encHi 0b01000101#8 rs rd)
  | .tMovHi rs rd => .thumb (encHi 0b01000110#8 rs rd)
  | .tBx h1 rs rd => .thumb (0x47#8 ++ flagBit h1 ++ regBits rs ++ loRegBits rd)
  | .tLdrPc rd word8 => .thumb (enc38 0b01001#5 rd word8)
  | .tStrReg ro rb rd => .thumb (enc333 0b0101000#7 (loRegBits ro) rb rd)
  | .tStrhReg ro rb rd => .thumb (enc333 0b0101001#7 (loRegBits ro) rb rd)
  | .tStrbReg ro rb rd => .thumb (enc333 0b0101010#7 (loRegBits ro) rb rd)
  | .tLdsb ro rb rd => .thumb (enc333 0b0101011#7 (loRegBits ro) rb rd)
  | .tLdrReg ro rb rd => .thumb (enc333 0b0101100#7 (loRegBits ro) rb rd)
  | .tLdrhReg ro rb rd => .thumb (enc333 0b0101101#7 (loRegBits ro) rb rd)
  | .tLdrbReg ro rb rd => .thumb (enc333 0b0101110#7 (loRegBits ro) rb rd)
  | .tLdsh ro rb rd => .thumb (enc333 0b0101111#7 (loRegBits ro) rb rd)
  | .tStrImm off5 rb rd => .thumb (enc533 0b01100#5 off5 rb rd)
  | .tLdrImm off5 rb rd => .thumb (enc533 0b01101#5 off5 rb rd)
  | .tStrbImm off5 rb rd => .thumb (enc533 0b01110#5 off5 rb rd)
  | .tLdrbImm off5 rb rd => .thumb (enc533 0b01111#5 off5 rb rd)
  | .tStrhImm off5 rb rd => .thumb (enc533 0b10000#5 off5 rb rd)
  | .tLdrhImm off5 rb rd => .thumb (enc533 0b10001#5 off5 rb rd)
  | .tStrSp rd word8 => .thumb (enc38 0b10010#5 rd word8)
  | .tLdrSp rd word8 => .thumb (enc38 0b10011#5 rd word8)
  | .tAddPc rd word8 => .thumb (enc38 0b10100#5 rd word8)
  | .tAddSp rd word8 => .thumb (enc38 0b10101#5 rd word8)
  | .tAddSpImm sword7 => .thumb (0b101100000#9 ++ sword7)
  | .tSubSpImm sword7 => .thumb (0b101100001#9 ++ sword7)
  | .tUndB1 half => .thumb half
  | .tUndB2 half => .thumb half
  | .tPush r rlist => .thumb (0b1011010#7 ++ flagBit r ++ rlist)
  | .tUndB6 half => .thumb half
  | .tUndB8 half => .thumb half
  | .tPop r rlist => .thumb (0b1011110#7 ++ flagBit r ++ rlist)
  | .tUndBE half => .thumb half
  | .tStmia rb rlist => .thumb (enc38 0b11000#5 rb rlist)
  | .tLdmia rb rlist => .thumb (enc38 0b11001#5 rb rlist)
  | .tUndDE half => .thumb half
  | .tSwi value8 => .thumb (0xDF#8 ++ value8)
  | .tBcond c soff8 => .thumb (0b1101#4 ++ condBits c ++ soff8)
  | .tB off11 => .thumb (0b11100#5 ++ off11)
  | .tUndE8 half => .thumb half
  | .tBlHi off11 => .thumb (0b11110#5 ++ off11)
  | .tBlLo off11 => .thumb (0b11111#5 ++ off11)

end Sys2Proof
end

