-- ==== Sys2Proof/Machine/Hle.lean ====
section
/-! DEFINITION. The BiosHLE: what a system call does when one is installed (47). Registers are those of the current bank; R0 to R3
are shared by all modes. -/

namespace Sys2Proof.Machine

/-- R0 to R3, the argument and result registers (47 R801). -/
def State.arg (s : State) (n : Fin 8) : Word := s.greg (.low n)

/-- `MemWrite(a, 1, 0)` for `k` ascending addresses (47 R810). -/
def zeroBytes (k : Nat) (a : Word) (s : State) : State :=
  match k with
  | 0 => s
  | k + 1 => zeroBytes k (a + 1) (s.memWrite a .b1 0)

/-- Writes zero to the listed registers. -/
def zeroRegs (gs : List GReg) (s : State) : State :=
  match gs with
  | [] => s
  | g :: rest => zeroRegs rest (s.setGreg g 0)

/-- R0 to R12 of the user bank. -/
def userR0toR12 : List GReg :=
  (List.finRange 8).map GReg.low ++ (List.finRange 5).map (GReg.mid false)

/-- SoftReset, call 0x00: clears 0x03007E00 to 0x03007FFF, resets the banks of Supervisor, IRQ and User mode, and starts at
0x08000000, or at 0x02000000 where the byte at 0x03007FFA was not 0 (47 R810). -/
def softReset (s : State) : State :=
  let flag := s.memRead 0x03007FFA .b1
  let cleared := zeroBytes 0x200 0x03007E00 s
  let svc := ((cleared.setGreg (.sp .svc) 0x03007FE0).setGreg (.lr .svc) 0).setSpsr .svc resetSpsr
  let irq := ((svc.setGreg (.sp .irq) 0x03007FA0).setGreg (.lr .irq) 0).setSpsr .irq resetSpsr
  let usr := ((irq.setCpsr resetCpsr).setGreg (.sp .usr) 0x03007F00).setGreg (.lr .usr) 0
  (zeroRegs userR0toR12 usr).setPc (if flag = 0 then 0x08000000 else 0x02000000)

/-- Clears bytes `lo` to `hi - 1` of a region's storage, where the flag bit asks for it (47 R811). -/
def clearIf (b : Bool) (r : Region) (lo hi : Nat) (s : State) : State :=
  if b then s.setMem (Sparse.clear s.mem (r.base + lo) (r.base + hi)) else s

/-- RegisterRamReset, call 0x01: the areas the bits of r0 select, written directly in the storage (47 R811). -/
def registerRamReset (s : State) : State :=
  let f := s.arg 0
  clearIf (f.getLsbD 4) .oam 0 Region.oam.size
    (clearIf (f.getLsbD 3) .vram 0 Region.vram.size
      (clearIf (f.getLsbD 2) .palette 0 Region.palette.size
        (clearIf (f.getLsbD 1) .iwram 0 0x7E00
          (clearIf (f.getLsbD 0) .ewram 0 Region.ewram.size s))))

/-- Halt, call 0x02 (47 R812). -/
def haltCall (s : State) : State := { s with halted := true, waitKind := .halt }

/-- Stop, call 0x03 (47 R813). -/
def stopCall (s : State) : State := { s with stopped := true }

/-- IntrWait with its arguments (47 R814). -/
def intrWait (discardOld : Bool) (mask : Half) (s : State) : State :=
  { s with
    ic := { s.ic with ime := true, shadow := if discardOld then s.ic.shadow &&& ~~~mask else s.ic.shadow }
    halted := true
    waitKind := .intrWait
    waitMask := mask }

/-- IntrWait, call 0x04: discardOld = r0, mask = r1[15:0] (47 R814). -/
def intrWaitCall (s : State) : State := intrWait (s.arg 0 ≠ 0) ((s.arg 1).extractLsb' 0 16) s

/-- VBlankIntrWait, call 0x05: IntrWait(1, VBlank) (47 R815). -/
def vblankIntrWaitCall (s : State) : State := intrWait true 0x0001 s

/-- Quotient and remainder of Div (47 R816). -/
def divResult (num den : Int) : Int × Int :=
  if den = 0 then (if num < 0 then -1 else 1, num)
  else if num = -2147483648 ∧ den = -1 then (-2147483648, 0)
  else (num.tdiv den, num - den * num.tdiv den)

/-- The outputs of Div: r0 the quotient, r1 the remainder, r3 the absolute quotient (47 R816). -/
def divOutputs (num den : Int) (s : State) : State :=
  let d := divResult num den
  ((s.setGreg (.low 0) (wordOfInt d.1)).setGreg (.low 1) (wordOfInt d.2)).setGreg (.low 3) (wordOfInt d.1.natAbs)

/-- Div, call 0x06: num = r0, den = r1 (47 R816). -/
def divCall (s : State) : State := divOutputs (signedOf (s.arg 0)) (signedOf (s.arg 1)) s

/-- DivArm, call 0x07: num = r1, den = r0 (47 R817). -/
def divArmCall (s : State) : State := divOutputs (signedOf (s.arg 1)) (signedOf (s.arg 0)) s

/-- Bytes of a unit as an address step. -/
def unitStep (w : Width) : Word := BitVec.ofNat 32 w.bytes

/-- The fill loop: one value stored in `n` ascending units (47 R818). -/
def fillUnits (n : Nat) (w : Width) (dst v : Word) (s : State) : State :=
  match n with
  | 0 => s
  | n + 1 => fillUnits n w (dst + unitStep w) v (s.memWrite dst w v)

/-- The copy loop: `n` units, ascending, each read just before it is written (47 R818). -/
def copyUnits (n : Nat) (w : Width) (src dst : Word) (s : State) : State :=
  match n with
  | 0 => s
  | n + 1 => copyUnits n w (src + unitStep w) (dst + unitStep w) (s.memWrite dst w (s.memRead src w))

/-- A copy or a fill of `n` units (47 R818). -/
def moveUnits (fill : Bool) (n : Nat) (w : Width) (src dst : Word) (s : State) : State :=
  if fill then fillUnits n w dst (s.memRead src w) s else copyUnits n w src dst s

/-- `ctrl AND 0x1FFFFF` (47 R818). -/
def setCount (ctrl : Word) : Nat := (ctrl &&& 0x1FFFFF).toNat

/-- `(ctrl AND 0x1FFFFF) AND NOT 7` (47 R819). -/
def fastSetCount (ctrl : Word) : Nat := (ctrl &&& 0x1FFFF8).toNat

/-- CPUSet, call 0x0B: src = r0, dst = r1, ctrl = r2 (47 R818). -/
def cpuSet (s : State) : State :=
  moveUnits ((s.arg 2).getLsbD 24) (setCount (s.arg 2)) (if (s.arg 2).getLsbD 26 then .b4 else .b2) (s.arg 0) (s.arg 1) s

/-- CPUFastSet, call 0x0C: always words, the count rounded down to a multiple of 8 (47 R819). -/
def cpuFastSet (s : State) : State :=
  moveUnits ((s.arg 2).getLsbD 24) (fastSetCount (s.arg 2)) .b4 (s.arg 0) (s.arg 1) s

/-- BiosChecksum, call 0x0D (47 R820). -/
def biosChecksum (s : State) : State := s.setGreg (.low 0) 0xBAAE187F

/-- Where the LZ77 decoder stands: the state, the source pointer, the bytes written, and whether a back-reference
stopped the call (47 R822). -/
structure LzPos where
  st : State
  p : Word
  out : Nat
  stop : Bool
  deriving DecidableEq, Repr

/-- The copy of a back-reference: `len` bytes, each read just before it is written, none past `size` (47 R822). -/
def lzCopy (len : Nat) (dst : Word) (size disp : Nat) (x : LzPos) : LzPos :=
  match len with
  | 0 => x
  | len + 1 =>
    if x.out < size then
      lzCopy len dst size disp
        { x with
          st := x.st.memWrite (dst + BitVec.ofNat 32 x.out) .b1
            (x.st.memRead (dst + BitVec.ofNat 32 x.out - BitVec.ofNat 32 disp) .b1)
          out := x.out + 1 }
    else x

/-- One token: a literal, or a back-reference, which stops the call where it reaches before the destination
(47 R822, R823). -/
def lzToken (ref : Bool) (dst : Word) (size : Nat) (x : LzPos) : LzPos :=
  if ref then
    let b0 := x.st.memRead x.p .b1
    let b1 := x.st.memRead (x.p + 1) .b1
    let disp := (b0 &&& 0x0F).toNat * 256 + b1.toNat + 1
    if x.out < disp then { x with p := x.p + 2, stop := true }
    else lzCopy ((b0 >>> 4).toNat + 3) dst size disp { x with p := x.p + 2 }
  else
    { x with
      st := x.st.memWrite (dst + BitVec.ofNat 32 x.out) .b1 (x.st.memRead x.p .b1)
      p := x.p + 1
      out := x.out + 1 }

/-- The tokens of one flag byte, bits `k - 1` down to 0 (47 R822). -/
def lzTokens (k : Nat) (flags : Word) (dst : Word) (size : Nat) (x : LzPos) : LzPos :=
  match k with
  | 0 => x
  | k + 1 =>
    if x.stop || size ≤ x.out then x
    else lzTokens k flags dst size (lzToken (flags.getLsbD k) dst size x)

/-- The token stream. Each flag byte writes at least one byte or stops, so `size` rounds are enough (47 R822; log 20). -/
def lzStream (fuel : Nat) (dst : Word) (size : Nat) (x : LzPos) : LzPos :=
  match fuel with
  | 0 => x
  | fuel + 1 =>
    if x.stop || size ≤ x.out then x
    else lzStream fuel dst size (lzTokens 8 (x.st.memRead x.p .b1) dst size { x with p := x.p + 1 })

/-- The 24-bit size of an LZ77 header, little-endian (47 R821). -/
def lzSize (s : State) (src : Word) : Nat :=
  (s.memRead (src + 1) .b1).toNat + (s.memRead (src + 2) .b1).toNat * 256 + (s.memRead (src + 3) .b1).toNat * 65536

/-- LZ77Uncompress, call 0x11: src = r0, dst = r1; nothing is written where the tag is not 0x10 (47 R821, R822). -/
def lz77 (s : State) : State :=
  if s.memRead (s.arg 0) .b1 = 0x10 then
    (lzStream (lzSize s (s.arg 0)) (s.arg 1) (lzSize s (s.arg 0)) { st := s, p := s.arg 0 + 4, out := 0, stop := false }).st
  else s

/-- The system call numbers that have a routine, and SoftReset apart, what each does but for the PC (47 R801). -/
def hleRoutine (n : Byte) (s : State) : Option State :=
  match n.toNat with
  | 0x01 => some (registerRamReset s)
  | 0x02 => some (haltCall s)
  | 0x03 => some (stopCall s)
  | 0x04 => some (intrWaitCall s)
  | 0x05 => some (vblankIntrWaitCall s)
  | 0x06 => some (divCall s)
  | 0x07 => some (divArmCall s)
  | 0x0B => some (cpuSet s)
  | 0x0C => some (cpuFastSet s)
  | 0x0D => some (biosChecksum s)
  | 0x11 => some (lz77 s)
  | _ => none

/-- A system call: the routine, then the PC moves past the SWI; SoftReset sets the PC itself; a number without a routine
only reports its event (47 R800, R802). -/
def callHle (n : Byte) (len : Word) (s : State) : State :=
  if n = 0x00 then softReset s
  else
    match hleRoutine n s with
    | some t => t.advancePc len
    | none => (s.report (.unimplementedSyscall n)).advancePc len

/-- An SWI of call `n` and instruction length `len`: a system call of the BiosHLE, or the SWI exception where none is
installed (43 R610, R612; 46 R751). -/
def softwareInterrupt (n : Byte) (len : Word) (s : State) : Host.Outcome State Fault Refusal :=
  if s.params.hleInstalled then .next (callHle n len s) else .next s.swiEntry

end Sys2Proof.Machine
end

