-- ==== Sys2Proof/Machine/Branch.lean ====
section
/-! DEFINITION. ARM branches, SWI and the ARM decode anomalies (43). -/

namespace Sys2Proof.Machine

/-- The target of B and BL: pc + 8 + sext_26(offset24 : 0b00) (43 R600; 30 R313). -/
def branchTarget (s : State) (off24 : BitVec 24) : Word := s.pc + 8 + sext (off24 ++ 0b00#2)

/-- B (43 R600). -/
def execB (c : Cond) (off24 : BitVec 24) (s : State) : Host.Outcome State Fault Refusal :=
  armIf c s (.next (s.setPc (branchTarget s off24)))

/-- BL: R14 of the current bank gets the address of the next instruction (43 R601). -/
def execBl (c : Cond) (off24 : BitVec 24) (s : State) : Host.Outcome State Fault Refusal :=
  armIf c s (.next ((s.setReg 14 (s.pc + 4)).setPc (branchTarget s off24)))

/-- The branch of BX: bit 0 of the target is the new T; an ARM target may not have bit 1 set (43 R602, 44 R683). -/
def branchExchange (s : State) (target : Word) : Host.Outcome State Fault Refusal :=
  if target.getLsbD 0 then .next ((s.setCpsr { s.cpsr with t := true }).setPc (align2 target))
  else if target.getLsbD 1 then .fault .bxArmMisaligned
  else .next ((s.setCpsr { s.cpsr with t := false }).setPc target)

/-- BX (43 R602). -/
def execBx (c : Cond) (rm : Reg) (s : State) : Host.Outcome State Fault Refusal :=
  armIf c s (branchExchange s (s.regArm rm))

/-- SWI: the call number is comment24[23:16] (43 R610, R611). -/
def execSwi (c : Cond) (comment24 : BitVec 24) (s : State) : Host.Outcome State Fault Refusal :=
  armIf c s (softwareInterrupt (comment24.extractLsb' 16 8) 4 s)

/-- The condition of an ARM word that is a decode anomaly: bits 31:28 (43 R620, R621). -/
def anomalyCond (word : Word) : Cond := armCond word

/-- An ARM decode anomaly (43 R620). -/
def armAnomaly (word : Word) (s : State) : Host.Outcome State Fault Refusal :=
  armIf (anomalyCond word) s (.next (s.anomaly 4 word))

/-- A word of the rest of the multiply and swap space (43 R620). -/
def execUndMulSwap (word : Word) (s : State) : Host.Outcome State Fault Refusal := armAnomaly word s

/-- A word of the rest of the halfword space (43 R620). -/
def execUndHalfword (word : Word) (s : State) : Host.Outcome State Fault Refusal := armAnomaly word s

/-- A word of the rest of the PSR and BX space (43 R620). -/
def execUndPsr (word : Word) (s : State) : Host.Outcome State Fault Refusal := armAnomaly word s

/-- A word of the MSR-immediate space with bit 21 = 0 (43 R620). -/
def execUndMsrImm (word : Word) (s : State) : Host.Outcome State Fault Refusal := armAnomaly word s

/-- A word of the architecturally undefined space (43 R620). -/
def execUnd011 (word : Word) (s : State) : Host.Outcome State Fault Refusal := armAnomaly word s

/-- A coprocessor transfer (43 R620). -/
def execUndCopTransfer (word : Word) (s : State) : Host.Outcome State Fault Refusal := armAnomaly word s

/-- A coprocessor operation or register transfer (43 R620). -/
def execUndCopOp (word : Word) (s : State) : Host.Outcome State Fault Refusal := armAnomaly word s

end Sys2Proof.Machine
end

