-- ==== Sys2Proof/Machine/DataProc.lean ====
section
/-! DEFINITION. The sixteen ARM data-processing instructions in their three operand forms (40 R405 to R428). -/

namespace Sys2Proof.Machine

/-- The end of the template of 40 R408, from the operation's result on: a test writes only flags (R411); S = 1 with
Rd = 15 is a PSR restore and sets no flag (R412); any other writes Rd, which branches for R15. -/
def dpFinish (op : DpOp) (sf : Bool) (rd : Reg) (r : AluOut) (s : State) : Host.Outcome State Fault Refusal :=
  if op.isTest then .next ((s.setFlags r).advancePc 4)
  else if sf && rd = 15 then s.psrRestore r.value
  else .next ((if sf then s.setFlags r else s).writeArm rd r.value)

/-- The template of data processing: operands are read before any write (40 R408). -/
def dataProc (op : DpOp) (sf : Bool) (rn rd : Reg) (operand : Word × Bool) (s : State) : Host.Outcome State Fault Refusal :=
  dpFinish op sf rd (alu op (s.regArm rn) operand.1 operand.2 s.cpsr) s

/-- R15 in a register field that a register-shift form uses (40 R407; a field the operation ignores does not
count, log 12). -/
def rsrNamesR15 (op : DpOp) (rn rd rs rm : Reg) : Bool :=
  rs = 15 || rm = 15 || (rn = 15 && !op.ignoresRn) || (rd = 15 && !op.isTest)

/-- The template for an immediate operand (40 R405). -/
def dpImm (op : DpOp) (sf : Bool) (rn rd : Reg) (rot : BitVec 4) (imm8 : BitVec 8) (s : State) :
    Host.Outcome State Fault Refusal :=
  dataProc op sf rn rd (immOperand s rot imm8) s

/-- The template for a register shifted by an immediate (40 R406). -/
def dpRsi (op : DpOp) (sf : Bool) (rn rd : Reg) (shImm : BitVec 5) (sh : ShiftType) (rm : Reg) (s : State) :
    Host.Outcome State Fault Refusal :=
  dataProc op sf rn rd (rsiOperand s shImm sh rm) s

/-- The template for a register shifted by a register (40 R407). -/
def dpRsr (op : DpOp) (sf : Bool) (rn rd rs : Reg) (sh : ShiftType) (rm : Reg) (s : State) :
    Host.Outcome State Fault Refusal :=
  if rsrNamesR15 op rn rd rs rm then .fault .dpRegshiftR15 else dataProc op sf rn rd (rsrOperand s rs sh rm) s

/-- AND, immediate (40 R413). -/
def execAndImm (c : Cond) (sf : Bool) (rn rd : Reg) (rot : BitVec 4) (imm8 : BitVec 8) (s : State) :
    Host.Outcome State Fault Refusal :=
  armIf c s (dpImm .and sf rn rd rot imm8 s)

/-- AND, register, immediate shift (40 R413). -/
def execAndRsi (c : Cond) (sf : Bool) (rn rd : Reg) (shImm : BitVec 5) (sh : ShiftType) (rm : Reg) (s : State) :
    Host.Outcome State Fault Refusal :=
  armIf c s (dpRsi .and sf rn rd shImm sh rm s)

/-- AND, register, register shift (40 R413). -/
def execAndRsr (c : Cond) (sf : Bool) (rn rd rs : Reg) (sh : ShiftType) (rm : Reg) (s : State) :
    Host.Outcome State Fault Refusal :=
  armIf c s (dpRsr .and sf rn rd rs sh rm s)

/-- EOR, immediate (40 R414). -/
def execEorImm (c : Cond) (sf : Bool) (rn rd : Reg) (rot : BitVec 4) (imm8 : BitVec 8) (s : State) :
    Host.Outcome State Fault Refusal :=
  armIf c s (dpImm .eor sf rn rd rot imm8 s)

/-- EOR, register, immediate shift (40 R414). -/
def execEorRsi (c : Cond) (sf : Bool) (rn rd : Reg) (shImm : BitVec 5) (sh : ShiftType) (rm : Reg) (s : State) :
    Host.Outcome State Fault Refusal :=
  armIf c s (dpRsi .eor sf rn rd shImm sh rm s)

/-- EOR, register, register shift (40 R414). -/
def execEorRsr (c : Cond) (sf : Bool) (rn rd rs : Reg) (sh : ShiftType) (rm : Reg) (s : State) :
    Host.Outcome State Fault Refusal :=
  armIf c s (dpRsr .eor sf rn rd rs sh rm s)

/-- SUB, immediate (40 R415). -/
def execSubImm (c : Cond) (sf : Bool) (rn rd : Reg) (rot : BitVec 4) (imm8 : BitVec 8) (s : State) :
    Host.Outcome State Fault Refusal :=
  armIf c s (dpImm .sub sf rn rd rot imm8 s)

/-- SUB, register, immediate shift (40 R415). -/
def execSubRsi (c : Cond) (sf : Bool) (rn rd : Reg) (shImm : BitVec 5) (sh : ShiftType) (rm : Reg) (s : State) :
    Host.Outcome State Fault Refusal :=
  armIf c s (dpRsi .sub sf rn rd shImm sh rm s)

/-- SUB, register, register shift (40 R415). -/
def execSubRsr (c : Cond) (sf : Bool) (rn rd rs : Reg) (sh : ShiftType) (rm : Reg) (s : State) :
    Host.Outcome State Fault Refusal :=
  armIf c s (dpRsr .sub sf rn rd rs sh rm s)

/-- RSB, immediate (40 R416). -/
def execRsbImm (c : Cond) (sf : Bool) (rn rd : Reg) (rot : BitVec 4) (imm8 : BitVec 8) (s : State) :
    Host.Outcome State Fault Refusal :=
  armIf c s (dpImm .rsb sf rn rd rot imm8 s)

/-- RSB, register, immediate shift (40 R416). -/
def execRsbRsi (c : Cond) (sf : Bool) (rn rd : Reg) (shImm : BitVec 5) (sh : ShiftType) (rm : Reg) (s : State) :
    Host.Outcome State Fault Refusal :=
  armIf c s (dpRsi .rsb sf rn rd shImm sh rm s)

/-- RSB, register, register shift (40 R416). -/
def execRsbRsr (c : Cond) (sf : Bool) (rn rd rs : Reg) (sh : ShiftType) (rm : Reg) (s : State) :
    Host.Outcome State Fault Refusal :=
  armIf c s (dpRsr .rsb sf rn rd rs sh rm s)

/-- ADD, immediate (40 R417). -/
def execAddImm (c : Cond) (sf : Bool) (rn rd : Reg) (rot : BitVec 4) (imm8 : BitVec 8) (s : State) :
    Host.Outcome State Fault Refusal :=
  armIf c s (dpImm .add sf rn rd rot imm8 s)

/-- ADD, register, immediate shift (40 R417). -/
def execAddRsi (c : Cond) (sf : Bool) (rn rd : Reg) (shImm : BitVec 5) (sh : ShiftType) (rm : Reg) (s : State) :
    Host.Outcome State Fault Refusal :=
  armIf c s (dpRsi .add sf rn rd shImm sh rm s)

/-- ADD, register, register shift (40 R417). -/
def execAddRsr (c : Cond) (sf : Bool) (rn rd rs : Reg) (sh : ShiftType) (rm : Reg) (s : State) :
    Host.Outcome State Fault Refusal :=
  armIf c s (dpRsr .add sf rn rd rs sh rm s)

/-- ADC, immediate (40 R418). -/
def execAdcImm (c : Cond) (sf : Bool) (rn rd : Reg) (rot : BitVec 4) (imm8 : BitVec 8) (s : State) :
    Host.Outcome State Fault Refusal :=
  armIf c s (dpImm .adc sf rn rd rot imm8 s)

/-- ADC, register, immediate shift (40 R418). -/
def execAdcRsi (c : Cond) (sf : Bool) (rn rd : Reg) (shImm : BitVec 5) (sh : ShiftType) (rm : Reg) (s : State) :
    Host.Outcome State Fault Refusal :=
  armIf c s (dpRsi .adc sf rn rd shImm sh rm s)

/-- ADC, register, register shift (40 R418). -/
def execAdcRsr (c : Cond) (sf : Bool) (rn rd rs : Reg) (sh : ShiftType) (rm : Reg) (s : State) :
    Host.Outcome State Fault Refusal :=
  armIf c s (dpRsr .adc sf rn rd rs sh rm s)

/-- SBC, immediate (40 R419). -/
def execSbcImm (c : Cond) (sf : Bool) (rn rd : Reg) (rot : BitVec 4) (imm8 : BitVec 8) (s : State) :
    Host.Outcome State Fault Refusal :=
  armIf c s (dpImm .sbc sf rn rd rot imm8 s)

/-- SBC, register, immediate shift (40 R419). -/
def execSbcRsi (c : Cond) (sf : Bool) (rn rd : Reg) (shImm : BitVec 5) (sh : ShiftType) (rm : Reg) (s : State) :
    Host.Outcome State Fault Refusal :=
  armIf c s (dpRsi .sbc sf rn rd shImm sh rm s)

/-- SBC, register, register shift (40 R419). -/
def execSbcRsr (c : Cond) (sf : Bool) (rn rd rs : Reg) (sh : ShiftType) (rm : Reg) (s : State) :
    Host.Outcome State Fault Refusal :=
  armIf c s (dpRsr .sbc sf rn rd rs sh rm s)

/-- RSC, immediate (40 R420). -/
def execRscImm (c : Cond) (sf : Bool) (rn rd : Reg) (rot : BitVec 4) (imm8 : BitVec 8) (s : State) :
    Host.Outcome State Fault Refusal :=
  armIf c s (dpImm .rsc sf rn rd rot imm8 s)

/-- RSC, register, immediate shift (40 R420). -/
def execRscRsi (c : Cond) (sf : Bool) (rn rd : Reg) (shImm : BitVec 5) (sh : ShiftType) (rm : Reg) (s : State) :
    Host.Outcome State Fault Refusal :=
  armIf c s (dpRsi .rsc sf rn rd shImm sh rm s)

/-- RSC, register, register shift (40 R420). -/
def execRscRsr (c : Cond) (sf : Bool) (rn rd rs : Reg) (sh : ShiftType) (rm : Reg) (s : State) :
    Host.Outcome State Fault Refusal :=
  armIf c s (dpRsr .rsc sf rn rd rs sh rm s)

/-- TST, immediate (40 R421). -/
def execTstImm (c : Cond) (rn rd : Reg) (rot : BitVec 4) (imm8 : BitVec 8) (s : State) :
    Host.Outcome State Fault Refusal :=
  armIf c s (dpImm .tst true rn rd rot imm8 s)

/-- TST, register, immediate shift (40 R421). -/
def execTstRsi (c : Cond) (rn rd : Reg) (shImm : BitVec 5) (sh : ShiftType) (rm : Reg) (s : State) :
    Host.Outcome State Fault Refusal :=
  armIf c s (dpRsi .tst true rn rd shImm sh rm s)

/-- TST, register, register shift (40 R421). -/
def execTstRsr (c : Cond) (rn rd rs : Reg) (sh : ShiftType) (rm : Reg) (s : State) :
    Host.Outcome State Fault Refusal :=
  armIf c s (dpRsr .tst true rn rd rs sh rm s)

/-- TEQ, immediate (40 R422). -/
def execTeqImm (c : Cond) (rn rd : Reg) (rot : BitVec 4) (imm8 : BitVec 8) (s : State) :
    Host.Outcome State Fault Refusal :=
  armIf c s (dpImm .teq true rn rd rot imm8 s)

/-- TEQ, register, immediate shift (40 R422). -/
def execTeqRsi (c : Cond) (rn rd : Reg) (shImm : BitVec 5) (sh : ShiftType) (rm : Reg) (s : State) :
    Host.Outcome State Fault Refusal :=
  armIf c s (dpRsi .teq true rn rd shImm sh rm s)

/-- TEQ, register, register shift (40 R422). -/
def execTeqRsr (c : Cond) (rn rd rs : Reg) (sh : ShiftType) (rm : Reg) (s : State) :
    Host.Outcome State Fault Refusal :=
  armIf c s (dpRsr .teq true rn rd rs sh rm s)

/-- CMP, immediate (40 R423). -/
def execCmpImm (c : Cond) (rn rd : Reg) (rot : BitVec 4) (imm8 : BitVec 8) (s : State) :
    Host.Outcome State Fault Refusal :=
  armIf c s (dpImm .cmp true rn rd rot imm8 s)

/-- CMP, register, immediate shift (40 R423). -/
def execCmpRsi (c : Cond) (rn rd : Reg) (shImm : BitVec 5) (sh : ShiftType) (rm : Reg) (s : State) :
    Host.Outcome State Fault Refusal :=
  armIf c s (dpRsi .cmp true rn rd shImm sh rm s)

/-- CMP, register, register shift (40 R423). -/
def execCmpRsr (c : Cond) (rn rd rs : Reg) (sh : ShiftType) (rm : Reg) (s : State) :
    Host.Outcome State Fault Refusal :=
  armIf c s (dpRsr .cmp true rn rd rs sh rm s)

/-- CMN, immediate (40 R424). -/
def execCmnImm (c : Cond) (rn rd : Reg) (rot : BitVec 4) (imm8 : BitVec 8) (s : State) :
    Host.Outcome State Fault Refusal :=
  armIf c s (dpImm .cmn true rn rd rot imm8 s)

/-- CMN, register, immediate shift (40 R424). -/
def execCmnRsi (c : Cond) (rn rd : Reg) (shImm : BitVec 5) (sh : ShiftType) (rm : Reg) (s : State) :
    Host.Outcome State Fault Refusal :=
  armIf c s (dpRsi .cmn true rn rd shImm sh rm s)

/-- CMN, register, register shift (40 R424). -/
def execCmnRsr (c : Cond) (rn rd rs : Reg) (sh : ShiftType) (rm : Reg) (s : State) :
    Host.Outcome State Fault Refusal :=
  armIf c s (dpRsr .cmn true rn rd rs sh rm s)

/-- ORR, immediate (40 R425). -/
def execOrrImm (c : Cond) (sf : Bool) (rn rd : Reg) (rot : BitVec 4) (imm8 : BitVec 8) (s : State) :
    Host.Outcome State Fault Refusal :=
  armIf c s (dpImm .orr sf rn rd rot imm8 s)

/-- ORR, register, immediate shift (40 R425). -/
def execOrrRsi (c : Cond) (sf : Bool) (rn rd : Reg) (shImm : BitVec 5) (sh : ShiftType) (rm : Reg) (s : State) :
    Host.Outcome State Fault Refusal :=
  armIf c s (dpRsi .orr sf rn rd shImm sh rm s)

/-- ORR, register, register shift (40 R425). -/
def execOrrRsr (c : Cond) (sf : Bool) (rn rd rs : Reg) (sh : ShiftType) (rm : Reg) (s : State) :
    Host.Outcome State Fault Refusal :=
  armIf c s (dpRsr .orr sf rn rd rs sh rm s)

/-- MOV, immediate (40 R426). -/
def execMovImm (c : Cond) (sf : Bool) (rn rd : Reg) (rot : BitVec 4) (imm8 : BitVec 8) (s : State) :
    Host.Outcome State Fault Refusal :=
  armIf c s (dpImm .mov sf rn rd rot imm8 s)

/-- MOV, register, immediate shift (40 R426). -/
def execMovRsi (c : Cond) (sf : Bool) (rn rd : Reg) (shImm : BitVec 5) (sh : ShiftType) (rm : Reg) (s : State) :
    Host.Outcome State Fault Refusal :=
  armIf c s (dpRsi .mov sf rn rd shImm sh rm s)

/-- MOV, register, register shift (40 R426). -/
def execMovRsr (c : Cond) (sf : Bool) (rn rd rs : Reg) (sh : ShiftType) (rm : Reg) (s : State) :
    Host.Outcome State Fault Refusal :=
  armIf c s (dpRsr .mov sf rn rd rs sh rm s)

/-- BIC, immediate (40 R427). -/
def execBicImm (c : Cond) (sf : Bool) (rn rd : Reg) (rot : BitVec 4) (imm8 : BitVec 8) (s : State) :
    Host.Outcome State Fault Refusal :=
  armIf c s (dpImm .bic sf rn rd rot imm8 s)

/-- BIC, register, immediate shift (40 R427). -/
def execBicRsi (c : Cond) (sf : Bool) (rn rd : Reg) (shImm : BitVec 5) (sh : ShiftType) (rm : Reg) (s : State) :
    Host.Outcome State Fault Refusal :=
  armIf c s (dpRsi .bic sf rn rd shImm sh rm s)

/-- BIC, register, register shift (40 R427). -/
def execBicRsr (c : Cond) (sf : Bool) (rn rd rs : Reg) (sh : ShiftType) (rm : Reg) (s : State) :
    Host.Outcome State Fault Refusal :=
  armIf c s (dpRsr .bic sf rn rd rs sh rm s)

/-- MVN, immediate (40 R428). -/
def execMvnImm (c : Cond) (sf : Bool) (rn rd : Reg) (rot : BitVec 4) (imm8 : BitVec 8) (s : State) :
    Host.Outcome State Fault Refusal :=
  armIf c s (dpImm .mvn sf rn rd rot imm8 s)

/-- MVN, register, immediate shift (40 R428). -/
def execMvnRsi (c : Cond) (sf : Bool) (rn rd : Reg) (shImm : BitVec 5) (sh : ShiftType) (rm : Reg) (s : State) :
    Host.Outcome State Fault Refusal :=
  armIf c s (dpRsi .mvn sf rn rd shImm sh rm s)

/-- MVN, register, register shift (40 R428). -/
def execMvnRsr (c : Cond) (sf : Bool) (rn rd rs : Reg) (sh : ShiftType) (rm : Reg) (s : State) :
    Host.Outcome State Fault Refusal :=
  armIf c s (dpRsr .mvn sf rn rd rs sh rm s)

end Sys2Proof.Machine
end

