-- ==== Sys2Proof/Machine/LoadStore.lean ====
section
/-! DEFINITION. ARM single, halfword and signed transfers and swaps (42 R500 to R525, R560, R561). -/

namespace Sys2Proof.Machine

/-- Write-back of the indexed address, where the form makes one (42 R501). -/
def writeBack (s : State) (wb : Bool) (rn : Reg) (indexed : Word) : State := if wb then s.setReg rn indexed else s

/-- The value a store stores: a free word where it writes back its own source register (42 R501). -/
def storeValue (s : State) (wb : Bool) (rn rd : Reg) : Word :=
  if wb && rn = rd then s.any32 .stWbRnEqRd else s.regStore rd

/-- A free word has been drawn, where the store drew one. -/
def storeDrawn (s : State) (wb : Bool) (rn rd : Reg) : State := if wb && rn = rd then s.drawn else s

/-- Post-indexed forms always write back (42 R500). -/
def writesBack (p w : Bool) : Bool := !p || w

/-- The restrictions of a single load: R15 as offset register or written-back base, Rd written back, LDRB to R15
(42 R500, R501, R504; log 11). -/
def loadFault (byte wb : Bool) (rn rd : Reg) (off : Offset) : Option Fault :=
  if offsetNamesR15 off then some .ldstRmR15
  else if wb && rn = 15 then some .ldstWbR15
  else if wb && rn = rd then some .ldWbRnEqRd
  else if byte && rd = 15 then some .ldrbR15
  else none

/-- The restrictions of a single store (42 R500, R505; log 11). -/
def storeFault (byte wb : Bool) (rn rd : Reg) (off : Offset) : Option Fault :=
  if offsetNamesR15 off then some .ldstRmR15
  else if wb && rn = 15 then some .ldstWbR15
  else if byte && rd = 15 then some .strbR15
  else none

/-- LDR and LDRB: access, write-back, destination, in this order (42 R502, R504, R510). -/
def loadSingle (byte p u w : Bool) (rn rd : Reg) (off : Offset) (s : State) : Host.Outcome State Fault Refusal :=
  match loadFault byte (writesBack p w) rn rd off with
  | some f => .fault f
  | none =>
    let a := accessAddr s p u rn (offsetValue s off)
    let data := if byte then s.memRead a .b1 else s.loadWord a
    .next ((writeBack s (writesBack p w) rn (indexedAddr s u rn (offsetValue s off))).writeArm rd data)

/-- STR and STRB: access, then write-back (42 R503, R505, R510). -/
def storeSingle (byte p u w : Bool) (rn rd : Reg) (off : Offset) (s : State) : Host.Outcome State Fault Refusal :=
  match storeFault byte (writesBack p w) rn rd off with
  | some f => .fault f
  | none =>
    let a := accessAddr s p u rn (offsetValue s off)
    let stored := s.memWrite a (if byte then .b1 else .b4) (storeValue s (writesBack p w) rn rd)
    .next ((writeBack (storeDrawn stored (writesBack p w) rn rd) (writesBack p w) rn
      (indexedAddr s u rn (offsetValue s off))).advancePc 4)

/-- LDR, pre-indexed (42 R502). -/
def execLdrPre (c : Cond) (u w : Bool) (rn rd : Reg) (off : Offset) (s : State) : Host.Outcome State Fault Refusal :=
  armIf c s (loadSingle false true u w rn rd off s)

/-- LDR, post-indexed (42 R502). -/
def execLdrPost (c : Cond) (u : Bool) (rn rd : Reg) (off : Offset) (s : State) : Host.Outcome State Fault Refusal :=
  armIf c s (loadSingle false false u false rn rd off s)

/-- LDRT: as LDR post-indexed (42 R506). -/
def execLdrt (c : Cond) (u : Bool) (rn rd : Reg) (off : Offset) (s : State) : Host.Outcome State Fault Refusal :=
  armIf c s (loadSingle false false u true rn rd off s)

/-- STR, pre-indexed (42 R503). -/
def execStrPre (c : Cond) (u w : Bool) (rn rd : Reg) (off : Offset) (s : State) : Host.Outcome State Fault Refusal :=
  armIf c s (storeSingle false true u w rn rd off s)

/-- STR, post-indexed (42 R503). -/
def execStrPost (c : Cond) (u : Bool) (rn rd : Reg) (off : Offset) (s : State) : Host.Outcome State Fault Refusal :=
  armIf c s (storeSingle false false u false rn rd off s)

/-- STRT: as STR post-indexed (42 R507). -/
def execStrt (c : Cond) (u : Bool) (rn rd : Reg) (off : Offset) (s : State) : Host.Outcome State Fault Refusal :=
  armIf c s (storeSingle false false u true rn rd off s)

/-- LDRB, pre-indexed (42 R504). -/
def execLdrbPre (c : Cond) (u w : Bool) (rn rd : Reg) (off : Offset) (s : State) : Host.Outcome State Fault Refusal :=
  armIf c s (loadSingle true true u w rn rd off s)

/-- LDRB, post-indexed (42 R504). -/
def execLdrbPost (c : Cond) (u : Bool) (rn rd : Reg) (off : Offset) (s : State) : Host.Outcome State Fault Refusal :=
  armIf c s (loadSingle true false u false rn rd off s)

/-- LDRBT: as LDRB post-indexed (42 R508). -/
def execLdrbt (c : Cond) (u : Bool) (rn rd : Reg) (off : Offset) (s : State) : Host.Outcome State Fault Refusal :=
  armIf c s (loadSingle true false u true rn rd off s)

/-- STRB, pre-indexed (42 R505). -/
def execStrbPre (c : Cond) (u w : Bool) (rn rd : Reg) (off : Offset) (s : State) : Host.Outcome State Fault Refusal :=
  armIf c s (storeSingle true true u w rn rd off s)

/-- STRB, post-indexed (42 R505). -/
def execStrbPost (c : Cond) (u : Bool) (rn rd : Reg) (off : Offset) (s : State) : Host.Outcome State Fault Refusal :=
  armIf c s (storeSingle true false u false rn rd off s)

/-- STRBT: as STRB post-indexed (42 R509). -/
def execStrbt (c : Cond) (u : Bool) (rn rd : Reg) (off : Offset) (s : State) : Host.Outcome State Fault Refusal :=
  armIf c s (storeSingle true false u true rn rd off s)

/-- The three halfword and signed loads (30 R303, field SH). -/
inductive HalfLoad where
  | uhalf | sbyte | shalf
  deriving DecidableEq, Repr

/-- The value a halfword or signed load gives (42 R521, R523, R524). -/
def halfLoadValue (k : HalfLoad) (s : State) (a : Word) : Word :=
  match k with
  | .uhalf => s.memRead a .b2
  | .sbyte => sext ((s.memRead a .b1).extractLsb' 0 8)
  | .shalf => sext ((s.memRead a .b2).extractLsb' 0 16)

/-- Halfword accesses may not be at an odd address; byte accesses may (42 R520, R523). -/
def HalfLoad.misaligned (k : HalfLoad) (a : Word) : Bool :=
  match k with
  | .uhalf => a.getLsbD 0
  | .sbyte => false
  | .shalf => a.getLsbD 0

/-- The restrictions of a halfword or signed transfer; `load` adds that of a written-back Rd (42 R520, R501; log 11,
log 14). -/
def halfFault (load p w : Bool) (rn rd : Reg) (off : HalfOffset) (odd : Bool) : Option Fault :=
  if !p && w then some .hwPostWriteback
  else if halfOffsetNamesR15 off then some .ldstRmR15
  else if writesBack p w && rn = 15 then some .ldstWbR15
  else if rd = 15 then some .hwR15
  else if load && writesBack p w && rn = rd then some .ldWbRnEqRd
  else if odd then some .hwMisaligned
  else none

/-- LDRH, LDRSB and LDRSH (42 R520 to R524). -/
def loadHalf (k : HalfLoad) (p u w : Bool) (rn rd : Reg) (off : HalfOffset) (s : State) : Host.Outcome State Fault Refusal :=
  let a := accessAddr s p u rn (halfOffsetValue s off)
  match halfFault true p w rn rd off (k.misaligned a) with
  | some f => .fault f
  | none =>
    .next ((writeBack s (writesBack p w) rn (indexedAddr s u rn (halfOffsetValue s off))).writeArm rd (halfLoadValue k s a))

/-- STRH (42 R520, R522). -/
def storeHalf (p u w : Bool) (rn rd : Reg) (off : HalfOffset) (s : State) : Host.Outcome State Fault Refusal :=
  let a := accessAddr s p u rn (halfOffsetValue s off)
  match halfFault false p w rn rd off (a.getLsbD 0) with
  | some f => .fault f
  | none =>
    .next ((writeBack (storeDrawn (s.memWrite a .b2 (storeValue s (writesBack p w) rn rd)) (writesBack p w) rn rd)
      (writesBack p w) rn (indexedAddr s u rn (halfOffsetValue s off))).advancePc 4)

/-- LDRH (42 R521). -/
def execLdrh (c : Cond) (p u w : Bool) (rn rd : Reg) (off : HalfOffset) (s : State) : Host.Outcome State Fault Refusal :=
  armIf c s (loadHalf .uhalf p u w rn rd off s)

/-- LDRSB (42 R523). -/
def execLdrsb (c : Cond) (p u w : Bool) (rn rd : Reg) (off : HalfOffset) (s : State) : Host.Outcome State Fault Refusal :=
  armIf c s (loadHalf .sbyte p u w rn rd off s)

/-- LDRSH (42 R524). -/
def execLdrsh (c : Cond) (p u w : Bool) (rn rd : Reg) (off : HalfOffset) (s : State) : Host.Outcome State Fault Refusal :=
  armIf c s (loadHalf .shalf p u w rn rd off s)

/-- STRH (42 R522). -/
def execStrh (c : Cond) (p u w : Bool) (rn rd : Reg) (off : HalfOffset) (s : State) : Host.Outcome State Fault Refusal :=
  armIf c s (storeHalf p u w rn rd off s)

/-- The restrictions of a swap (42 R560; log 11). -/
def swapFault (rn rd rm : Reg) : Option Fault :=
  if rn = 15 || rd = 15 || rm = 15 then some .swpR15
  else if rn = rm || rn = rd then some .swpRnOverlap
  else none

/-- SWP and SWPB: read, write, then the destination (42 R560, R561). -/
def swap (byte : Bool) (rn rd rm : Reg) (s : State) : Host.Outcome State Fault Refusal :=
  match swapFault rn rd rm with
  | some f => .fault f
  | none =>
    let a := s.regArm rn
    let old := if byte then s.memRead a .b1 else s.loadWord a
    .next (((s.memWrite a (if byte then .b1 else .b4) (s.regArm rm)).setReg rd old).advancePc 4)

/-- SWP (42 R560). -/
def execSwp (c : Cond) (rn rd rm : Reg) (s : State) : Host.Outcome State Fault Refusal :=
  armIf c s (swap false rn rd rm s)

/-- SWPB (42 R561). -/
def execSwpb (c : Cond) (rn rd rm : Reg) (s : State) : Host.Outcome State Fault Refusal :=
  armIf c s (swap true rn rd rm s)

end Sys2Proof.Machine
end

