-- ==== Sys2Proof/Machine/Multiply.lean ====
section
/-! DEFINITION. The six ARM multiplies (41 R450 to R456). -/

namespace Sys2Proof.Machine

/-- N and Z of a 32-bit product, C a free bit, V unchanged (41 R450). -/
def mulFlags (s : State) (v : Word) : State :=
  (s.setCpsr (s.cpsr.withNzcv v.msb (v == 0) (s.any1 .mulCarry) s.cpsr.v)).drawn

/-- The end of MUL and MLA (41 R450, R451). -/
def mulFinish (sf : Bool) (rd : Reg) (v : Word) (s : State) : State :=
  (((if sf then mulFlags s v else s).setReg rd v)).advancePc 4

/-- MUL and MLA: the restrictions of 41 R456 on the registers the form uses, then the product. -/
def mulShort (sf : Bool) (rd rs rm : Reg) (usesR15 : Bool) (v : Word) (s : State) : Host.Outcome State Fault Refusal :=
  if rd = 15 || rs = 15 || rm = 15 || usesR15 then .fault .mulR15
  else if rd = rm then .fault .mulRdEqRm
  else .next (mulFinish sf rd v s)

/-- N and Z of a 64-bit product, C and V free bits (41 R452). -/
def mullFlags (s : State) (p : BitVec 64) : State :=
  (s.setCpsr (s.cpsr.withNzcv p.msb (p == 0) (s.any1 .mullCarry) (s.any1 .mullOverflow))).drawn

/-- The end of a long multiply: RdLo gets bits 31:0, RdHi bits 63:32 (41 R452). -/
def mullFinish (sf : Bool) (rdHi rdLo : Reg) (p : BitVec 64) (s : State) : State :=
  (((if sf then mullFlags s p else s).setReg rdLo (p.extractLsb' 0 32)).setReg rdHi (p.extractLsb' 32 32)).advancePc 4

/-- A long multiply: the restrictions of 41 R456, then the product. -/
def mulLong (sf : Bool) (rdHi rdLo rs rm : Reg) (p : BitVec 64) (s : State) : Host.Outcome State Fault Refusal :=
  if rdHi = 15 || rdLo = 15 || rs = 15 || rm = 15 then .fault .mulR15
  else if rdHi = rdLo || rdHi = rm || rdLo = rm then .fault .mullRegOverlap
  else .next (mullFinish sf rdHi rdLo p s)

/-- The unsigned 64-bit product of two registers. -/
def uProduct (s : State) (rs rm : Reg) : BitVec 64 := (s.regArm rm).setWidth 64 * (s.regArm rs).setWidth 64

/-- The signed 64-bit product of two registers. -/
def sProduct (s : State) (rs rm : Reg) : BitVec 64 := (s.regArm rm).signExtend 64 * (s.regArm rs).signExtend 64

/-- `R[RdHi] : R[RdLo]`. -/
def accumulator (s : State) (rdHi rdLo : Reg) : BitVec 64 := s.regArm rdHi ++ s.regArm rdLo

/-- MUL: the Rn field is ignored (41 R450, R456). -/
def execMul (c : Cond) (sf : Bool) (rd _rn rs rm : Reg) (s : State) : Host.Outcome State Fault Refusal :=
  armIf c s (mulShort sf rd rs rm false (s.regArm rm * s.regArm rs) s)

/-- MLA (41 R451). -/
def execMla (c : Cond) (sf : Bool) (rd rn rs rm : Reg) (s : State) : Host.Outcome State Fault Refusal :=
  armIf c s (mulShort sf rd rs rm (rn = 15) (s.regArm rm * s.regArm rs + s.regArm rn) s)

/-- UMULL (41 R452). -/
def execUmull (c : Cond) (sf : Bool) (rdHi rdLo rs rm : Reg) (s : State) : Host.Outcome State Fault Refusal :=
  armIf c s (mulLong sf rdHi rdLo rs rm (uProduct s rs rm) s)

/-- UMLAL (41 R453). -/
def execUmlal (c : Cond) (sf : Bool) (rdHi rdLo rs rm : Reg) (s : State) : Host.Outcome State Fault Refusal :=
  armIf c s (mulLong sf rdHi rdLo rs rm (uProduct s rs rm + accumulator s rdHi rdLo) s)

/-- SMULL (41 R454). -/
def execSmull (c : Cond) (sf : Bool) (rdHi rdLo rs rm : Reg) (s : State) : Host.Outcome State Fault Refusal :=
  armIf c s (mulLong sf rdHi rdLo rs rm (sProduct s rs rm) s)

/-- SMLAL (41 R455). -/
def execSmlal (c : Cond) (sf : Bool) (rdHi rdLo rs rm : Reg) (s : State) : Host.Outcome State Fault Refusal :=
  armIf c s (mulLong sf rdHi rdLo rs rm (sProduct s rs rm + accumulator s rdHi rdLo) s)

end Sys2Proof.Machine
end

