-- ==== Sys2Proof/Machine/PsrTransfer.lean ====
section
/-! DEFINITION. MRS and MSR (40 R430 to R435). -/

namespace Sys2Proof.Machine

/-- MSR to the CPSR: the f field writes the flags in every mode; the c field writes I, F and the mode, and is ignored in
User mode; the x and s fields reach only reserved bits (40 R432). -/
def msrCpsr (mask : BitVec 4) (v : Word) (s : State) : Host.Outcome State Fault Refusal :=
  let p := if mask.getLsbD 3 then s.cpsr.withNzcv (v.getLsbD 31) (v.getLsbD 30) (v.getLsbD 29) (v.getLsbD 28) else s.cpsr
  if mask.getLsbD 0 && s.cpsr.mode.privileged then
    if v.getLsbD 5 != s.cpsr.t then .fault .msrTChange
    else
      match Mode.ofBits? (v.extractLsb' 0 5) with
      | none => .fault .invalidMode
      | some m => .next ((s.setCpsr { p with i := v.getLsbD 7, f := v.getLsbD 6, mode := m }).advancePc 4)
  else .next ((s.setCpsr p).advancePc 4)

/-- The bytes of an SPSR that MSR writes: any value, T and illegal modes included (40 R433; 10 R112). -/
def msrPsr (mask : BitVec 4) (v : Word) (p : Psr) : Psr :=
  let w := Psr.ofWord v
  let q := if mask.getLsbD 3 then { p with n := w.n, z := w.z, c := w.c, v := w.v } else p
  if mask.getLsbD 0 then { q with i := w.i, f := w.f, t := w.t, m := w.m } else q

/-- MSR to the current SPSR (40 R433). -/
def msrSpsr (mask : BitVec 4) (v : Word) (s : State) : Host.Outcome State Fault Refusal :=
  match s.cpsr.mode.exc? with
  | none => .fault .noSpsr
  | some e => .next ((s.setSpsr e (msrPsr mask v (s.spsrOf e))).advancePc 4)

/-- MSR of a value; R selects the SPSR (40 R430). -/
def msr (r : Bool) (mask : BitVec 4) (v : Word) (s : State) : Host.Outcome State Fault Refusal :=
  if r then msrSpsr mask v s else msrCpsr mask v s

/-- The status word MRS reads: the CPSR, or the current SPSR where there is one (40 R431). -/
def mrsValue (r : Bool) (s : State) : Option Word :=
  if r then s.cpsr.mode.exc?.map fun e => (s.spsrOf e).toWord else some s.cpsr.toWord

/-- MRS (40 R431). -/
def execMrs (c : Cond) (r : Bool) (rd : Reg) (s : State) : Host.Outcome State Fault Refusal :=
  armIf c s <|
    if rd = 15 then .fault .mrsR15
    else
      match mrsValue r s with
      | none => .fault .noSpsr
      | some v => .next ((s.setReg rd v).advancePc 4)

/-- MSR, register form. Rm = 15 is UNPREDICTABLE where the operand is read: first for the CPSR (40 R432), but for the SPSR after
the test for one, whose fault `msr` then gives (40 R433; 60 R930). -/
def execMsrReg (c : Cond) (r : Bool) (mask : BitVec 4) (rm : Reg) (s : State) : Host.Outcome State Fault Refusal :=
  armIf c s (if rm = 15 && !(r && s.cpsr.mode.exc?.isNone) then .fault .msrR15 else msr r mask (s.regArm rm) s)

/-- MSR, immediate form (40 R432, R433, R434). -/
def execMsrImm (c : Cond) (r : Bool) (mask rot : BitVec 4) (imm8 : BitVec 8) (s : State) : Host.Outcome State Fault Refusal :=
  armIf c s (msr r mask (rotImm rot imm8) s)

end Sys2Proof.Machine
end

