-- ==== Sys2Proof/Machine/ThumbAlu.lean ====
section
/-! DEFINITION. Thumb data processing, formats 1 to 5, 12 and 13 (44). -/

namespace Sys2Proof.Machine

/-- A low register and all four flags from a result; the PC advances (44). -/
def lowResult (rd : LoReg) (r : AluOut) (s : State) : Host.Outcome State Fault Refusal :=
  .next (((s.setFlags r).setGreg (.low rd) r.value).advancePc 2)

/-- Only the flags from a result; the PC advances. -/
def flagResult (r : AluOut) (s : State) : Host.Outcome State Fault Refusal := .next ((s.setFlags r).advancePc 2)

/-- A low-register operation with its flags: C of a logical one is the shifter carry `shc`. -/
def thumbAlu (op : DpOp) (rd : LoReg) (a b : Word) (shc : Bool) (s : State) : Host.Outcome State Fault Refusal :=
  if op.isTest then flagResult (alu op a b shc s.cpsr) s else lowResult rd (alu op a b shc s.cpsr) s

/-- A shift into a low register: N and Z from the value, C the carry-out, V unchanged (44 R650, R663). -/
def thumbShift (rd : LoReg) (r : Word × Bool) (s : State) : Host.Outcome State Fault Refusal :=
  lowResult rd (logicOut r.1 r.2 s.cpsr) s

/-- The amount of a register shift: the low byte of Rs (44 R663). -/
def shiftAmount (s : State) (rs : LoReg) : Nat := ((s.lo rs).extractLsb' 0 8).toNat

/-- LSL Rd, Rs, #off5 (44 R650). -/
def execTLslImm (off5 : BitVec 5) (rs rd : LoReg) (s : State) : Host.Outcome State Fault Refusal :=
  thumbShift rd (shiftByImm .lsl (s.lo rs) off5 s.cpsr.c) s

/-- LSR Rd, Rs, #off5; 0 means 32 (44 R651). -/
def execTLsrImm (off5 : BitVec 5) (rs rd : LoReg) (s : State) : Host.Outcome State Fault Refusal :=
  thumbShift rd (shiftByImm .lsr (s.lo rs) off5 s.cpsr.c) s

/-- ASR Rd, Rs, #off5; 0 means 32 (44 R652). -/
def execTAsrImm (off5 : BitVec 5) (rs rd : LoReg) (s : State) : Host.Outcome State Fault Refusal :=
  thumbShift rd (shiftByImm .asr (s.lo rs) off5 s.cpsr.c) s

/-- ADD Rd, Rs, Rn (44 R653). -/
def execTAddReg (rn rs rd : LoReg) (s : State) : Host.Outcome State Fault Refusal :=
  thumbAlu .add rd (s.lo rs) (s.lo rn) s.cpsr.c s

/-- SUB Rd, Rs, Rn (44 R654). -/
def execTSubReg (rn rs rd : LoReg) (s : State) : Host.Outcome State Fault Refusal :=
  thumbAlu .sub rd (s.lo rs) (s.lo rn) s.cpsr.c s

/-- ADD Rd, Rs, #off3 (44 R655). -/
def execTAddImm3 (off3 : BitVec 3) (rs rd : LoReg) (s : State) : Host.Outcome State Fault Refusal :=
  thumbAlu .add rd (s.lo rs) (zext off3) s.cpsr.c s

/-- SUB Rd, Rs, #off3 (44 R656). -/
def execTSubImm3 (off3 : BitVec 3) (rs rd : LoReg) (s : State) : Host.Outcome State Fault Refusal :=
  thumbAlu .sub rd (s.lo rs) (zext off3) s.cpsr.c s

/-- MOV Rd, #off8 (44 R657). -/
def execTMovImm (rd : LoReg) (off8 : BitVec 8) (s : State) : Host.Outcome State Fault Refusal :=
  thumbAlu .mov rd (s.lo rd) (zext off8) s.cpsr.c s

/-- CMP Rd, #off8 (44 R658). -/
def execTCmpImm (rd : LoReg) (off8 : BitVec 8) (s : State) : Host.Outcome State Fault Refusal :=
  thumbAlu .cmp rd (s.lo rd) (zext off8) s.cpsr.c s

/-- ADD Rd, #off8 (44 R659). -/
def execTAddImm8 (rd : LoReg) (off8 : BitVec 8) (s : State) : Host.Outcome State Fault Refusal :=
  thumbAlu .add rd (s.lo rd) (zext off8) s.cpsr.c s

/-- SUB Rd, #off8 (44 R660). -/
def execTSubImm8 (rd : LoReg) (off8 : BitVec 8) (s : State) : Host.Outcome State Fault Refusal :=
  thumbAlu .sub rd (s.lo rd) (zext off8) s.cpsr.c s

/-- AND Rd, Rs (44 R661). -/
def execTAnd (rs rd : LoReg) (s : State) : Host.Outcome State Fault Refusal :=
  thumbAlu .and rd (s.lo rd) (s.lo rs) s.cpsr.c s

/-- EOR Rd, Rs (44 R662). -/
def execTEor (rs rd : LoReg) (s : State) : Host.Outcome State Fault Refusal :=
  thumbAlu .eor rd (s.lo rd) (s.lo rs) s.cpsr.c s

/-- LSL Rd, Rs (44 R663). -/
def execTLslReg (rs rd : LoReg) (s : State) : Host.Outcome State Fault Refusal :=
  thumbShift rd (shiftByAmount .lsl (s.lo rd) (shiftAmount s rs) s.cpsr.c) s

/-- LSR Rd, Rs (44 R664). -/
def execTLsrReg (rs rd : LoReg) (s : State) : Host.Outcome State Fault Refusal :=
  thumbShift rd (shiftByAmount .lsr (s.lo rd) (shiftAmount s rs) s.cpsr.c) s

/-- ASR Rd, Rs (44 R665). -/
def execTAsrReg (rs rd : LoReg) (s : State) : Host.Outcome State Fault Refusal :=
  thumbShift rd (shiftByAmount .asr (s.lo rd) (shiftAmount s rs) s.cpsr.c) s

/-- ADC Rd, Rs (44 R666). -/
def execTAdc (rs rd : LoReg) (s : State) : Host.Outcome State Fault Refusal :=
  thumbAlu .adc rd (s.lo rd) (s.lo rs) s.cpsr.c s

/-- SBC Rd, Rs (44 R667). -/
def execTSbc (rs rd : LoReg) (s : State) : Host.Outcome State Fault Refusal :=
  thumbAlu .sbc rd (s.lo rd) (s.lo rs) s.cpsr.c s

/-- ROR Rd, Rs (44 R668). -/
def execTRor (rs rd : LoReg) (s : State) : Host.Outcome State Fault Refusal :=
  thumbShift rd (shiftByAmount .ror (s.lo rd) (shiftAmount s rs) s.cpsr.c) s

/-- TST Rd, Rs (44 R669). -/
def execTTst (rs rd : LoReg) (s : State) : Host.Outcome State Fault Refusal :=
  thumbAlu .tst rd (s.lo rd) (s.lo rs) s.cpsr.c s

/-- NEG Rd, Rs: 0 - Rs with its flags (44 R670). -/
def execTNeg (rs rd : LoReg) (s : State) : Host.Outcome State Fault Refusal :=
  thumbAlu .rsb rd (s.lo rs) 0 s.cpsr.c s

/-- CMP Rd, Rs (44 R671). -/
def execTCmpReg (rs rd : LoReg) (s : State) : Host.Outcome State Fault Refusal :=
  thumbAlu .cmp rd (s.lo rd) (s.lo rs) s.cpsr.c s

/-- CMN Rd, Rs (44 R672). -/
def execTCmn (rs rd : LoReg) (s : State) : Host.Outcome State Fault Refusal :=
  thumbAlu .cmn rd (s.lo rd) (s.lo rs) s.cpsr.c s

/-- ORR Rd, Rs (44 R673). -/
def execTOrr (rs rd : LoReg) (s : State) : Host.Outcome State Fault Refusal :=
  thumbAlu .orr rd (s.lo rd) (s.lo rs) s.cpsr.c s

/-- MUL Rd, Rs: C a free bit, V unchanged (44 R674). -/
def execTMul (rs rd : LoReg) (s : State) : Host.Outcome State Fault Refusal :=
  if rd = rs then .fault .mulRdEqRm
  else .next ((((s.setFlags { value := s.lo rs * s.lo rd, c := s.any1 .mulCarry, v := s.cpsr.v }).drawn).setGreg (.low rd)
    (s.lo rs * s.lo rd)).advancePc 2)

/-- BIC Rd, Rs (44 R675). -/
def execTBic (rs rd : LoReg) (s : State) : Host.Outcome State Fault Refusal :=
  thumbAlu .bic rd (s.lo rd) (s.lo rs) s.cpsr.c s

/-- MVN Rd, Rs (44 R676). -/
def execTMvn (rs rd : LoReg) (s : State) : Host.Outcome State Fault Refusal :=
  thumbAlu .mvn rd (s.lo rd) (s.lo rs) s.cpsr.c s

/-- Both registers of a format-5 ADD, CMP or MOV are low (44 R684). -/
def bothLow (rs rd : Reg) : Bool := rs.val < 8 && rd.val < 8

/-- ADD Rd, Rs, high form: no flags (44 R680, R684). -/
def execTAddHi (rs rd : Reg) (s : State) : Host.Outcome State Fault Refusal :=
  if bothLow rs rd then .fault .thumbHiLoLo
  else .next (s.writeThumb rd (s.regThumb rd + s.regThumb rs))

/-- CMP Rd, Rs, high form (44 R681, R684). -/
def execTCmpHi (rs rd : Reg) (s : State) : Host.Outcome State Fault Refusal :=
  if bothLow rs rd then .fault .thumbHiLoLo
  else flagResult (alu .cmp (s.regThumb rd) (s.regThumb rs) s.cpsr.c s.cpsr) s

/-- MOV Rd, Rs, high form: no flags (44 R682, R684). -/
def execTMovHi (rs rd : Reg) (s : State) : Host.Outcome State Fault Refusal :=
  if bothLow rs rd then .fault .thumbHiLoLo
  else .next (s.writeThumb rd (s.regThumb rs))

/-- ADD Rd, PC, #word8*4 (44 R690). -/
def execTAddPc (rd : LoReg) (word8 : BitVec 8) (s : State) : Host.Outcome State Fault Refusal :=
  .next ((s.setGreg (.low rd) (align4 (s.pc + 4) + zext (word8 ++ 0b00#2))).advancePc 2)

/-- ADD Rd, SP, #word8*4 (44 R691). -/
def execTAddSp (rd : LoReg) (word8 : BitVec 8) (s : State) : Host.Outcome State Fault Refusal :=
  .next ((s.setGreg (.low rd) (s.regThumb 13 + zext (word8 ++ 0b00#2))).advancePc 2)

/-- ADD SP, #sword7*4 (44 R692). -/
def execTAddSpImm (sword7 : BitVec 7) (s : State) : Host.Outcome State Fault Refusal :=
  .next ((s.setReg 13 (s.regThumb 13 + zext (sword7 ++ 0b00#2))).advancePc 2)

/-- SUB SP, #sword7*4 (44 R693). -/
def execTSubSpImm (sword7 : BitVec 7) (s : State) : Host.Outcome State Fault Refusal :=
  .next ((s.setReg 13 (s.regThumb 13 - zext (sword7 ++ 0b00#2))).advancePc 2)

end Sys2Proof.Machine
end

