-- ==== Sys2Proof/Machine/ThumbBranch.lean ====
section
/-! DEFINITION. Thumb branches, BX, SWI and the reserved Thumb encodings (44 R683; 46). -/

namespace Sys2Proof.Machine

/-- BX Rs: H1 = 1 is UNPREDICTABLE; the Rd field is ignored (44 R683). -/
def execTBx (h1 : Bool) (rs : Reg) (_rd : LoReg) (s : State) : Host.Outcome State Fault Refusal :=
  if h1 then .fault .thumbBxH1 else branchExchange s (s.regThumb rs)

/-- B<cond> (46 R750). -/
def execTBcond (c : Cond) (soff8 : BitVec 8) (s : State) : Host.Outcome State Fault Refusal :=
  if condPass c s.cpsr then .next (s.setPc (s.pc + 4 + sext (soff8 ++ 0b0#1))) else .next (s.advancePc 2)

/-- SWI (46 R751). -/
def execTSwi (value8 : BitVec 8) (s : State) : Host.Outcome State Fault Refusal :=
  softwareInterrupt value8 2 s

/-- B (46 R752). -/
def execTB (off11 : BitVec 11) (s : State) : Host.Outcome State Fault Refusal :=
  .next (s.setPc (s.pc + 4 + sext (off11 ++ 0b0#1)))

/-- BL prefix (46 R753). -/
def execTBlHi (off11 : BitVec 11) (s : State) : Host.Outcome State Fault Refusal :=
  .next ((s.setReg 14 (s.pc + 4 + sext (off11 ++ 0x000#12))).advancePc 2)

/-- BL suffix: it uses whatever R14 holds (46 R754). -/
def execTBlLo (off11 : BitVec 11) (s : State) : Host.Outcome State Fault Refusal :=
  .next ((s.setReg 14 ((s.pc + 2) ||| 1)).setPc (align2 (s.regThumb 14 + zext (off11 ++ 0b0#1))))

/-- A reserved Thumb halfword is a decode anomaly (46 R755, 43 R620). -/
def thumbAnomaly (half : Half) (s : State) : Host.Outcome State Fault Refusal := .next (s.anomaly 2 (zext half))

/-- 0xB100 to 0xB1FF (46 R755). -/
def execTUndB1 (half : Half) (s : State) : Host.Outcome State Fault Refusal :=
  thumbAnomaly half s

/-- 0xB200 to 0xB3FF (46 R755). -/
def execTUndB2 (half : Half) (s : State) : Host.Outcome State Fault Refusal :=
  thumbAnomaly half s

/-- 0xB600 to 0xB7FF (46 R755). -/
def execTUndB6 (half : Half) (s : State) : Host.Outcome State Fault Refusal :=
  thumbAnomaly half s

/-- 0xB800 to 0xBBFF (46 R755). -/
def execTUndB8 (half : Half) (s : State) : Host.Outcome State Fault Refusal :=
  thumbAnomaly half s

/-- 0xBE00 to 0xBFFF (46 R755). -/
def execTUndBE (half : Half) (s : State) : Host.Outcome State Fault Refusal :=
  thumbAnomaly half s

/-- 0xDE00 to 0xDEFF (46 R755). -/
def execTUndDE (half : Half) (s : State) : Host.Outcome State Fault Refusal :=
  thumbAnomaly half s

/-- 0xE800 to 0xEFFF (46 R755). -/
def execTUndE8 (half : Half) (s : State) : Host.Outcome State Fault Refusal :=
  thumbAnomaly half s

end Sys2Proof.Machine
end

