-- ==== Sys2Proof/Machine/ThumbLoadStore.lean ====
section
/-! DEFINITION. Thumb loads, stores and block transfers, formats 6 to 11, 14 and 15 (45). -/

namespace Sys2Proof.Machine

/-- A load into a low register; the PC advances. -/
def thumbLoaded (rd : LoReg) (v : Word) (s : State) : Host.Outcome State Fault Refusal :=
  .next ((s.setGreg (.low rd) v).advancePc 2)

/-- A store; the PC advances. -/
def thumbStored (a : Word) (w : Width) (v : Word) (s : State) : Host.Outcome State Fault Refusal :=
  .next ((s.memWrite a w v).advancePc 2)

/-- A halfword load at an odd address is UNPREDICTABLE (45 R707, R708, R714). -/
def thumbLoadHalf (signed : Bool) (rd : LoReg) (a : Word) (s : State) : Host.Outcome State Fault Refusal :=
  if a.getLsbD 0 then .fault .hwMisaligned
  else thumbLoaded rd (if signed then sext ((s.memRead a .b2).extractLsb' 0 16) else s.memRead a .b2) s

/-- A halfword store at an odd address is UNPREDICTABLE (45 R705, R713). -/
def thumbStoreHalf (rd : LoReg) (a : Word) (s : State) : Host.Outcome State Fault Refusal :=
  if a.getLsbD 0 then .fault .hwMisaligned else thumbStored a .b2 (s.lo rd) s

/-- A signed byte load (45 R706). -/
def thumbLoadSByte (rd : LoReg) (a : Word) (s : State) : Host.Outcome State Fault Refusal :=
  thumbLoaded rd (sext ((s.memRead a .b1).extractLsb' 0 8)) s

/-- LDR Rd, [PC, #word8*4]: always word-aligned (45 R700). -/
def execTLdrPc (rd : LoReg) (word8 : BitVec 8) (s : State) : Host.Outcome State Fault Refusal :=
  thumbLoaded rd (s.memRead (align4 (s.pc + 4) + zext (word8 ++ 0b00#2)) .b4) s

/-- STR Rd, [Rb, Ro] (45 R701). -/
def execTStrReg (ro rb rd : LoReg) (s : State) : Host.Outcome State Fault Refusal :=
  thumbStored (s.lo rb + s.lo ro) .b4 (s.lo rd) s

/-- STRB Rd, [Rb, Ro] (45 R702). -/
def execTStrbReg (ro rb rd : LoReg) (s : State) : Host.Outcome State Fault Refusal :=
  thumbStored (s.lo rb + s.lo ro) .b1 (s.lo rd) s

/-- LDR Rd, [Rb, Ro]: a misaligned address rotates the word (45 R703). -/
def execTLdrReg (ro rb rd : LoReg) (s : State) : Host.Outcome State Fault Refusal :=
  thumbLoaded rd (s.loadWord (s.lo rb + s.lo ro)) s

/-- LDRB Rd, [Rb, Ro] (45 R704). -/
def execTLdrbReg (ro rb rd : LoReg) (s : State) : Host.Outcome State Fault Refusal :=
  thumbLoaded rd (s.memRead (s.lo rb + s.lo ro) .b1) s

/-- STRH Rd, [Rb, Ro] (45 R705). -/
def execTStrhReg (ro rb rd : LoReg) (s : State) : Host.Outcome State Fault Refusal :=
  thumbStoreHalf rd (s.lo rb + s.lo ro) s

/-- LDSB Rd, [Rb, Ro] (45 R706). -/
def execTLdsb (ro rb rd : LoReg) (s : State) : Host.Outcome State Fault Refusal :=
  thumbLoadSByte rd (s.lo rb + s.lo ro) s

/-- LDRH Rd, [Rb, Ro] (45 R707). -/
def execTLdrhReg (ro rb rd : LoReg) (s : State) : Host.Outcome State Fault Refusal :=
  thumbLoadHalf false rd (s.lo rb + s.lo ro) s

/-- LDSH Rd, [Rb, Ro] (45 R708). -/
def execTLdsh (ro rb rd : LoReg) (s : State) : Host.Outcome State Fault Refusal :=
  thumbLoadHalf true rd (s.lo rb + s.lo ro) s

/-- STR Rd, [Rb, #off5*4] (45 R709). -/
def execTStrImm (off5 : BitVec 5) (rb rd : LoReg) (s : State) : Host.Outcome State Fault Refusal :=
  thumbStored (s.lo rb + zext (off5 ++ 0b00#2)) .b4 (s.lo rd) s

/-- LDR Rd, [Rb, #off5*4] (45 R710). -/
def execTLdrImm (off5 : BitVec 5) (rb rd : LoReg) (s : State) : Host.Outcome State Fault Refusal :=
  thumbLoaded rd (s.loadWord (s.lo rb + zext (off5 ++ 0b00#2))) s

/-- STRB Rd, [Rb, #off5] (45 R711). -/
def execTStrbImm (off5 : BitVec 5) (rb rd : LoReg) (s : State) : Host.Outcome State Fault Refusal :=
  thumbStored (s.lo rb + zext off5) .b1 (s.lo rd) s

/-- LDRB Rd, [Rb, #off5] (45 R712). -/
def execTLdrbImm (off5 : BitVec 5) (rb rd : LoReg) (s : State) : Host.Outcome State Fault Refusal :=
  thumbLoaded rd (s.memRead (s.lo rb + zext off5) .b1) s

/-- STRH Rd, [Rb, #off5*2] (45 R713). -/
def execTStrhImm (off5 : BitVec 5) (rb rd : LoReg) (s : State) : Host.Outcome State Fault Refusal :=
  thumbStoreHalf rd (s.lo rb + zext (off5 ++ 0b0#1)) s

/-- LDRH Rd, [Rb, #off5*2] (45 R714). -/
def execTLdrhImm (off5 : BitVec 5) (rb rd : LoReg) (s : State) : Host.Outcome State Fault Refusal :=
  thumbLoadHalf false rd (s.lo rb + zext (off5 ++ 0b0#1)) s

/-- STR Rd, [SP, #word8*4] (45 R715). -/
def execTStrSp (rd : LoReg) (word8 : BitVec 8) (s : State) : Host.Outcome State Fault Refusal :=
  thumbStored (s.regThumb 13 + zext (word8 ++ 0b00#2)) .b4 (s.lo rd) s

/-- LDR Rd, [SP, #word8*4] (45 R716). -/
def execTLdrSp (rd : LoReg) (word8 : BitVec 8) (s : State) : Host.Outcome State Fault Refusal :=
  thumbLoaded rd (s.loadWord (s.regThumb 13 + zext (word8 ++ 0b00#2))) s

/-- The registers of an 8-bit list as general register numbers, ascending. -/
def loRegNumbers (rlist : BitVec 8) : List Reg := (loRegList rlist).map loReg

/-- The words PUSH stores, the lowest address first: the list, then LR (45 R720). -/
def pushWords (r : Bool) (rlist : BitVec 8) (s : State) : List Word :=
  (loRegList rlist).map s.lo ++ if r then [s.regThumb 14] else []

/-- The number of registers PUSH and POP transfer (45 R720, R721). -/
def stackCount (r : Bool) (rlist : BitVec 8) : Nat := (loRegList rlist).length + r.toNat

/-- The first address of PUSH, which is also its new stack pointer (45 R720). -/
def pushAddr (r : Bool) (rlist : BitVec 8) (s : State) : Word := s.regThumb 13 - blockBytes (stackCount r rlist)

/-- PUSH (45 R720). -/
def execTPush (r : Bool) (rlist : BitVec 8) (s : State) : Host.Outcome State Fault Refusal :=
  if stackCount r rlist = 0 then .fault .ldmStmEmptyList
  else .next (((s.storeWords (pushAddr r rlist s) (pushWords r rlist s)).setReg 13 (pushAddr r rlist s)).advancePc 2)

/-- The state after POP's loads and its new stack pointer (45 R721). -/
def popLoaded (r : Bool) (rlist : BitVec 8) (s : State) : State :=
  (s.loadRegs s.cpsr.mode (s.regThumb 13) (loRegNumbers rlist)).setReg 13
    (s.regThumb 13 + blockBytes (stackCount r rlist))

/-- POP: with the R bit it branches and stays in Thumb state (45 R721). -/
def execTPop (r : Bool) (rlist : BitVec 8) (s : State) : Host.Outcome State Fault Refusal :=
  if stackCount r rlist = 0 then .fault .ldmStmEmptyList
  else if r then
    .next ((popLoaded r rlist s).setPc
      (align2 (s.memRead (s.regThumb 13 + blockBytes (loRegList rlist).length) .b4)))
  else .next ((popLoaded r rlist s).advancePc 2)

/-- Rb is in the list and not its lowest register: its stored value is free (45 R722). -/
def stmiaDraws (rb : LoReg) (rlist : BitVec 8) : Bool :=
  rlist.getLsbD rb.val && !((loRegList rlist).head? = some rb)

/-- The value STMIA stores for a register (45 R722). -/
def stmiaValue (rb : LoReg) (rlist : BitVec 8) (s : State) (r : LoReg) : Word :=
  if r = rb && stmiaDraws rb rlist then s.any32 .stmWbBaseNotLowest else s.lo r

/-- The state after STMIA's stores (45 R722). -/
def stmiaStored (rb : LoReg) (rlist : BitVec 8) (s : State) : State :=
  s.storeWords (s.lo rb) ((loRegList rlist).map (stmiaValue rb rlist s))

/-- STMIA Rb! (45 R722). -/
def execTStmia (rb : LoReg) (rlist : BitVec 8) (s : State) : Host.Outcome State Fault Refusal :=
  if rlist = 0 then .fault .ldmStmEmptyList
  else
    .next (((if stmiaDraws rb rlist then (stmiaStored rb rlist s).drawn else stmiaStored rb rlist s).setGreg (.low rb)
      (s.lo rb + blockBytes (loRegList rlist).length)).advancePc 2)

/-- LDMIA Rb!: no write-back where Rb is in the list (45 R723). -/
def execTLdmia (rb : LoReg) (rlist : BitVec 8) (s : State) : Host.Outcome State Fault Refusal :=
  if rlist = 0 then .fault .ldmStmEmptyList
  else if rlist.getLsbD rb.val then .next ((s.loadRegs s.cpsr.mode (s.lo rb) (loRegNumbers rlist)).advancePc 2)
  else
    .next (((s.loadRegs s.cpsr.mode (s.lo rb) (loRegNumbers rlist)).setGreg (.low rb)
      (s.lo rb + blockBytes (loRegList rlist).length)).advancePc 2)

end Sys2Proof.Machine
end

