-- ==== Sys2Proof/Machine/Dispatch.lean ====
section
/-! DEFINITION. The meaning of every instruction: one arm per constructor of `Instr`. -/

namespace Sys2Proof.Machine

def exec (i : Instr) (s : State) : Host.Outcome State Fault Refusal :=
  match i with
  | .mul c sf rd rn rs rm => Sys2Proof.Machine.execMul c sf rd rn rs rm s
  | .mla c sf rd rn rs rm => Sys2Proof.Machine.execMla c sf rd rn rs rm s
  | .umull c sf rdHi rdLo rs rm => Sys2Proof.Machine.execUmull c sf rdHi rdLo rs rm s
  | .umlal c sf rdHi rdLo rs rm => Sys2Proof.Machine.execUmlal c sf rdHi rdLo rs rm s
  | .smull c sf rdHi rdLo rs rm => Sys2Proof.Machine.execSmull c sf rdHi rdLo rs rm s
  | .smlal c sf rdHi rdLo rs rm => Sys2Proof.Machine.execSmlal c sf rdHi rdLo rs rm s
  | .swp c rn rd rm => Sys2Proof.Machine.execSwp c rn rd rm s
  | .swpb c rn rd rm => Sys2Proof.Machine.execSwpb c rn rd rm s
  | .undMulSwap word => Sys2Proof.Machine.execUndMulSwap word s
  | .ldrh c p u w rn rd off => Sys2Proof.Machine.execLdrh c p u w rn rd off s
  | .ldrsb c p u w rn rd off => Sys2Proof.Machine.execLdrsb c p u w rn rd off s
  | .ldrsh c p u w rn rd off => Sys2Proof.Machine.execLdrsh c p u w rn rd off s
  | .strh c p u w rn rd off => Sys2Proof.Machine.execStrh c p u w rn rd off s
  | .undHalfword word => Sys2Proof.Machine.execUndHalfword word s
  | .mrs c r rd => Sys2Proof.Machine.execMrs c r rd s
  | .msrReg c r mask rm => Sys2Proof.Machine.execMsrReg c r mask rm s
  | .bx c rm => Sys2Proof.Machine.execBx c rm s
  | .undPsr word => Sys2Proof.Machine.execUndPsr word s
  | .msrImm c r mask rot imm8 => Sys2Proof.Machine.execMsrImm c r mask rot imm8 s
  | .undMsrImm word => Sys2Proof.Machine.execUndMsrImm word s
  | .andImm c sf rn rd rot imm8 => Sys2Proof.Machine.execAndImm c sf rn rd rot imm8 s
  | .andRsi c sf rn rd shImm sh rm => Sys2Proof.Machine.execAndRsi c sf rn rd shImm sh rm s
  | .andRsr c sf rn rd rs sh rm => Sys2Proof.Machine.execAndRsr c sf rn rd rs sh rm s
  | .eorImm c sf rn rd rot imm8 => Sys2Proof.Machine.execEorImm c sf rn rd rot imm8 s
  | .eorRsi c sf rn rd shImm sh rm => Sys2Proof.Machine.execEorRsi c sf rn rd shImm sh rm s
  | .eorRsr c sf rn rd rs sh rm => Sys2Proof.Machine.execEorRsr c sf rn rd rs sh rm s
  | .subImm c sf rn rd rot imm8 => Sys2Proof.Machine.execSubImm c sf rn rd rot imm8 s
  | .subRsi c sf rn rd shImm sh rm => Sys2Proof.Machine.execSubRsi c sf rn rd shImm sh rm s
  | .subRsr c sf rn rd rs sh rm => Sys2Proof.Machine.execSubRsr c sf rn rd rs sh rm s
  | .rsbImm c sf rn rd rot imm8 => Sys2Proof.Machine.execRsbImm c sf rn rd rot imm8 s
  | .rsbRsi c sf rn rd shImm sh rm => Sys2Proof.Machine.execRsbRsi c sf rn rd shImm sh rm s
  | .rsbRsr c sf rn rd rs sh rm => Sys2Proof.Machine.execRsbRsr c sf rn rd rs sh rm s
  | .addImm c sf rn rd rot imm8 => Sys2Proof.Machine.execAddImm c sf rn rd rot imm8 s
  | .addRsi c sf rn rd shImm sh rm => Sys2Proof.Machine.execAddRsi c sf rn rd shImm sh rm s
  | .addRsr c sf rn rd rs sh rm => Sys2Proof.Machine.execAddRsr c sf rn rd rs sh rm s
  | .adcImm c sf rn rd rot imm8 => Sys2Proof.Machine.execAdcImm c sf rn rd rot imm8 s
  | .adcRsi c sf rn rd shImm sh rm => Sys2Proof.Machine.execAdcRsi c sf rn rd shImm sh rm s
  | .adcRsr c sf rn rd rs sh rm => Sys2Proof.Machine.execAdcRsr c sf rn rd rs sh rm s
  | .sbcImm c sf rn rd rot imm8 => Sys2Proof.Machine.execSbcImm c sf rn rd rot imm8 s
  | .sbcRsi c sf rn rd shImm sh rm => Sys2Proof.Machine.execSbcRsi c sf rn rd shImm sh rm s
  | .sbcRsr c sf rn rd rs sh rm => Sys2Proof.Machine.execSbcRsr c sf rn rd rs sh rm s
  | .rscImm c sf rn rd rot imm8 => Sys2Proof.Machine.execRscImm c sf rn rd rot imm8 s
  | .rscRsi c sf rn rd shImm sh rm => Sys2Proof.Machine.execRscRsi c sf rn rd shImm sh rm s
  | .rscRsr c sf rn rd rs sh rm => Sys2Proof.Machine.execRscRsr c sf rn rd rs sh rm s
  | .tstImm c rn rd rot imm8 => Sys2Proof.Machine.execTstImm c rn rd rot imm8 s
  | .tstRsi c rn rd shImm sh rm => Sys2Proof.Machine.execTstRsi c rn rd shImm sh rm s
  | .tstRsr c rn rd rs sh rm => Sys2Proof.Machine.execTstRsr c rn rd rs sh rm s
  | .teqImm c rn rd rot imm8 => Sys2Proof.Machine.execTeqImm c rn rd rot imm8 s
  | .teqRsi c rn rd shImm sh rm => Sys2Proof.Machine.execTeqRsi c rn rd shImm sh rm s
  | .teqRsr c rn rd rs sh rm => Sys2Proof.Machine.execTeqRsr c rn rd rs sh rm s
  | .cmpImm c rn rd rot imm8 => Sys2Proof.Machine.execCmpImm c rn rd rot imm8 s
  | .cmpRsi c rn rd shImm sh rm => Sys2Proof.Machine.execCmpRsi c rn rd shImm sh rm s
  | .cmpRsr c rn rd rs sh rm => Sys2Proof.Machine.execCmpRsr c rn rd rs sh rm s
  | .cmnImm c rn rd rot imm8 => Sys2Proof.Machine.execCmnImm c rn rd rot imm8 s
  | .cmnRsi c rn rd shImm sh rm => Sys2Proof.Machine.execCmnRsi c rn rd shImm sh rm s
  | .cmnRsr c rn rd rs sh rm => Sys2Proof.Machine.execCmnRsr c rn rd rs sh rm s
  | .orrImm c sf rn rd rot imm8 => Sys2Proof.Machine.execOrrImm c sf rn rd rot imm8 s
  | .orrRsi c sf rn rd shImm sh rm => Sys2Proof.Machine.execOrrRsi c sf rn rd shImm sh rm s
  | .orrRsr c sf rn rd rs sh rm => Sys2Proof.Machine.execOrrRsr c sf rn rd rs sh rm s
  | .movImm c sf rn rd rot imm8 => Sys2Proof.Machine.execMovImm c sf rn rd rot imm8 s
  | .movRsi c sf rn rd shImm sh rm => Sys2Proof.Machine.execMovRsi c sf rn rd shImm sh rm s
  | .movRsr c sf rn rd rs sh rm => Sys2Proof.Machine.execMovRsr c sf rn rd rs sh rm s
  | .bicImm c sf rn rd rot imm8 => Sys2Proof.Machine.execBicImm c sf rn rd rot imm8 s
  | .bicRsi c sf rn rd shImm sh rm => Sys2Proof.Machine.execBicRsi c sf rn rd shImm sh rm s
  | .bicRsr c sf rn rd rs sh rm => Sys2Proof.Machine.execBicRsr c sf rn rd rs sh rm s
  | .mvnImm c sf rn rd rot imm8 => Sys2Proof.Machine.execMvnImm c sf rn rd rot imm8 s
  | .mvnRsi c sf rn rd shImm sh rm => Sys2Proof.Machine.execMvnRsi c sf rn rd shImm sh rm s
  | .mvnRsr c sf rn rd rs sh rm => Sys2Proof.Machine.execMvnRsr c sf rn rd rs sh rm s
  | .und011 word => Sys2Proof.Machine.execUnd011 word s
  | .ldrPre c u w rn rd off => Sys2Proof.Machine.execLdrPre c u w rn rd off s
  | .ldrPost c u rn rd off => Sys2Proof.Machine.execLdrPost c u rn rd off s
  | .ldrt c u rn rd off => Sys2Proof.Machine.execLdrt c u rn rd off s
  | .strPre c u w rn rd off => Sys2Proof.Machine.execStrPre c u w rn rd off s
  | .strPost c u rn rd off => Sys2Proof.Machine.execStrPost c u rn rd off s
  | .strt c u rn rd off => Sys2Proof.Machine.execStrt c u rn rd off s
  | .ldrbPre c u w rn rd off => Sys2Proof.Machine.execLdrbPre c u w rn rd off s
  | .ldrbPost c u rn rd off => Sys2Proof.Machine.execLdrbPost c u rn rd off s
  | .ldrbt c u rn rd off => Sys2Proof.Machine.execLdrbt c u rn rd off s
  | .strbPre c u w rn rd off => Sys2Proof.Machine.execStrbPre c u w rn rd off s
  | .strbPost c u rn rd off => Sys2Proof.Machine.execStrbPost c u rn rd off s
  | .strbt c u rn rd off => Sys2Proof.Machine.execStrbt c u rn rd off s
  | .ldm c p u sb w rn list => Sys2Proof.Machine.execLdm c p u sb w rn list s
  | .stm c p u sb w rn list => Sys2Proof.Machine.execStm c p u sb w rn list s
  | .b c off24 => Sys2Proof.Machine.execB c off24 s
  | .bl c off24 => Sys2Proof.Machine.execBl c off24 s
  | .undCopTransfer word => Sys2Proof.Machine.execUndCopTransfer word s
  | .undCopOp word => Sys2Proof.Machine.execUndCopOp word s
  | .swi c comment24 => Sys2Proof.Machine.execSwi c comment24 s
  | .tLslImm off5 rs rd => Sys2Proof.Machine.execTLslImm off5 rs rd s
  | .tLsrImm off5 rs rd => Sys2Proof.Machine.execTLsrImm off5 rs rd s
  | .tAsrImm off5 rs rd => Sys2Proof.Machine.execTAsrImm off5 rs rd s
  | .tAddReg rn rs rd => Sys2Proof.Machine.execTAddReg rn rs rd s
  | .tSubReg rn rs rd => Sys2Proof.Machine.execTSubReg rn rs rd s
  | .tAddImm3 off3 rs rd => Sys2Proof.Machine.execTAddImm3 off3 rs rd s
  | .tSubImm3 off3 rs rd => Sys2Proof.Machine.execTSubImm3 off3 rs rd s
  | .tMovImm rd off8 => Sys2Proof.Machine.execTMovImm rd off8 s
  | .tCmpImm rd off8 => Sys2Proof.Machine.execTCmpImm rd off8 s
  | .tAddImm8 rd off8 => Sys2Proof.Machine.execTAddImm8 rd off8 s
  | .tSubImm8 rd off8 => Sys2Proof.Machine.execTSubImm8 rd off8 s
  | .tAnd rs rd => Sys2Proof.Machine.execTAnd rs rd s
  | .tEor rs rd => Sys2Proof.Machine.execTEor rs rd s
  | .tLslReg rs rd => Sys2Proof.Machine.execTLslReg rs rd s
  | .tLsrReg rs rd => Sys2Proof.Machine.execTLsrReg rs rd s
  | .tAsrReg rs rd => Sys2Proof.Machine.execTAsrReg rs rd s
  | .tAdc rs rd => Sys2Proof.Machine.execTAdc rs rd s
  | .tSbc rs rd => Sys2Proof.Machine.execTSbc rs rd s
  | .tRor rs rd => Sys2Proof.Machine.execTRor rs rd s
  | .tTst rs rd => Sys2Proof.Machine.execTTst rs rd s
  | .tNeg rs rd => Sys2Proof.Machine.execTNeg rs rd s
  | .tCmpReg rs rd => Sys2Proof.Machine.execTCmpReg rs rd s
  | .tCmn rs rd => Sys2Proof.Machine.execTCmn rs rd s
  | .tOrr rs rd => Sys2Proof.Machine.execTOrr rs rd s
  | .tMul rs rd => Sys2Proof.Machine.execTMul rs rd s
  | .tBic rs rd => Sys2Proof.Machine.execTBic rs rd s
  | .tMvn rs rd => Sys2Proof.Machine.execTMvn rs rd s
  | .tAddHi rs rd => Sys2Proof.Machine.execTAddHi rs rd s
  | .tCmpHi rs rd => Sys2Proof.Machine.execTCmpHi rs rd s
  | .tMovHi rs rd => Sys2Proof.Machine.execTMovHi rs rd s
  | .tBx h1 rs rd => Sys2Proof.Machine.execTBx h1 rs rd s
  | .tLdrPc rd word8 => Sys2Proof.Machine.execTLdrPc rd word8 s
  | .tStrReg ro rb rd => Sys2Proof.Machine.execTStrReg ro rb rd s
  | .tStrhReg ro rb rd => Sys2Proof.Machine.execTStrhReg ro rb rd s
  | .tStrbReg ro rb rd => Sys2Proof.Machine.execTStrbReg ro rb rd s
  | .tLdsb ro rb rd => Sys2Proof.Machine.execTLdsb ro rb rd s
  | .tLdrReg ro rb rd => Sys2Proof.Machine.execTLdrReg ro rb rd s
  | .tLdrhReg ro rb rd => Sys2Proof.Machine.execTLdrhReg ro rb rd s
  | .tLdrbReg ro rb rd => Sys2Proof.Machine.execTLdrbReg ro rb rd s
  | .tLdsh ro rb rd => Sys2Proof.Machine.execTLdsh ro rb rd s
  | .tStrImm off5 rb rd => Sys2Proof.Machine.execTStrImm off5 rb rd s
  | .tLdrImm off5 rb rd => Sys2Proof.Machine.execTLdrImm off5 rb rd s
  | .tStrbImm off5 rb rd => Sys2Proof.Machine.execTStrbImm off5 rb rd s
  | .tLdrbImm off5 rb rd => Sys2Proof.Machine.execTLdrbImm off5 rb rd s
  | .tStrhImm off5 rb rd => Sys2Proof.Machine.execTStrhImm off5 rb rd s
  | .tLdrhImm off5 rb rd => Sys2Proof.Machine.execTLdrhImm off5 rb rd s
  | .tStrSp rd word8 => Sys2Proof.Machine.execTStrSp rd word8 s
  | .tLdrSp rd word8 => Sys2Proof.Machine.execTLdrSp rd word8 s
  | .tAddPc rd word8 => Sys2Proof.Machine.execTAddPc rd word8 s
  | .tAddSp rd word8 => Sys2Proof.Machine.execTAddSp rd word8 s
  | .tAddSpImm sword7 => Sys2Proof.Machine.execTAddSpImm sword7 s
  | .tSubSpImm sword7 => Sys2Proof.Machine.execTSubSpImm sword7 s
  | .tUndB1 half => Sys2Proof.Machine.execTUndB1 half s
  | .tUndB2 half => Sys2Proof.Machine.execTUndB2 half s
  | .tPush r rlist => Sys2Proof.Machine.execTPush r rlist s
  | .tUndB6 half => Sys2Proof.Machine.execTUndB6 half s
  | .tUndB8 half => Sys2Proof.Machine.execTUndB8 half s
  | .tPop r rlist => Sys2Proof.Machine.execTPop r rlist s
  | .tUndBE half => Sys2Proof.Machine.execTUndBE half s
  | .tStmia rb rlist => Sys2Proof.Machine.execTStmia rb rlist s
  | .tLdmia rb rlist => Sys2Proof.Machine.execTLdmia rb rlist s
  | .tUndDE half => Sys2Proof.Machine.execTUndDE half s
  | .tSwi value8 => Sys2Proof.Machine.execTSwi value8 s
  | .tBcond c soff8 => Sys2Proof.Machine.execTBcond c soff8 s
  | .tB off11 => Sys2Proof.Machine.execTB off11 s
  | .tUndE8 half => Sys2Proof.Machine.execTUndE8 half s
  | .tBlHi off11 => Sys2Proof.Machine.execTBlHi off11 s
  | .tBlLo off11 => Sys2Proof.Machine.execTBlLo off11 s

end Sys2Proof.Machine
end

