-- ==== Sys2Proof/Machine/Ppu.lean ====
section
/-! DEFINITION. The picture processor: its ticks, the interrupts they request, and the rendering of a line (61). It runs only
inside `advance`. It reads the storage directly, with no interception (20 R242). -/

namespace Sys2Proof.Machine

/-! ### Arrays and colours -/

/-- A byte of VRAM (20 R242). -/
def State.vram (s : State) (off : Nat) : Byte := Memory.get s.mem (Region.vram.base + off)

/-- A byte of Palette memory. -/
def State.paletteByte (s : State) (off : Nat) : Byte := Memory.get s.mem (Region.palette.base + off)

/-- A byte of OAM. -/
def State.oamByte (s : State) (off : Nat) : Byte := Memory.get s.mem (Region.oam.base + off)

/-- `vram8` of a background fetch: 0 from offset 0x10000 on (61 R1028). -/
def bgVram8 (s : State) (off : Nat) : Byte := if off < 0x10000 then s.vram off else 0

/-- `vram16` of a background fetch (61 R1028). -/
def bgVram16 (s : State) (off : Nat) : Half := bgVram8 s (off + 1) ++ bgVram8 s off

/-- The BGR555 colour of a halfword: bit 15 is ignored (61 R1012). -/
def bgr555 (h : Half) : BitVec 15 := h.extractLsb' 0 15

/-- `pal(e)`: palette entry `e`, 0 to 511 (61 R1012). -/
def pal (s : State) (e : Nat) : BitVec 15 := bgr555 (s.paletteByte (2 * e + 1) ++ s.paletteByte (2 * e))

/-- A direct-colour pixel at a VRAM offset (61 R1040, R1042). -/
def directColour (s : State) (off : Nat) : BitVec 15 := bgr555 (s.vram (off + 1) ++ s.vram off)

/-- `toRGBA(c)`: each channel shifted left by 3, red lowest, alpha 0xFF (61 R1070). -/
def toRGBA (c : BitVec 15) : Word :=
  0xFF#8 ++ (c.extractLsb' 10 5 ++ 0b000#3) ++ (c.extractLsb' 5 5 ++ 0b000#3) ++ (c.extractLsb' 0 5 ++ 0b000#3)

/-- What a layer shows at a pixel: nothing, a palette entry, or a colour itself (61 R1060). -/
inductive Pixel where
  | transparent
  | entry (e : Nat)
  | colour (c : BitVec 15)
  deriving DecidableEq, Repr

/-- A palette entry shown where the index is not 0 (61 R1026, R1027). -/
def indexed (index entry : Nat) : Pixel := if index = 0 then .transparent else .entry entry

/-- `colour(e)` of an opaque pixel (61 R1060). -/
def Pixel.colour? (p : Pixel) (s : State) : Option (BitVec 15) :=
  match p with
  | .transparent => none
  | .entry e => some (pal s e)
  | .colour c => some c

/-- The nibble of a 4-bit-per-pixel byte: the left pixel is the low one (61 R1026). -/
def nibble (b : Byte) (px : Nat) : Nat := if px % 2 = 0 then (b.extractLsb' 0 4).toNat else (b.extractLsb' 4 4).toNat

/-! ### Backgrounds (61 R1020 to R1042; 10 R146) -/

/-- `DISPCNT[2:0]` (61 R1020). -/
def State.bgMode (s : State) : Nat := (s.ppu.dispcnt.extractLsb' 0 3).toNat

/-- The cached parameters of a background (10 R146). -/
structure BackgroundLayer where
  enabled : Bool
  priority : Nat
  tileBase : Nat
  mapBase : Nat
  sizeClass : Nat
  bpp8 : Bool
  hofs : Nat
  vofs : Nat
  wrap : Bool
  deriving DecidableEq, Repr

/-- `BackgroundLayer[n]`, computed from the registers at every reading (10 R146). -/
def backgroundLayer (s : State) (n : Fin 4) : BackgroundLayer where
  enabled := s.ppu.dispcnt.getLsbD (8 + n.val)
  priority := (s.ppu.bg[n].cnt.extractLsb' 0 2).toNat
  tileBase := (s.ppu.bg[n].cnt.extractLsb' 2 2).toNat * 0x4000
  mapBase := (s.ppu.bg[n].cnt.extractLsb' 8 5).toNat * 0x800
  sizeClass := (s.ppu.bg[n].cnt.extractLsb' 14 2).toNat
  bpp8 := s.ppu.bg[n].cnt.getLsbD 7
  hofs := s.ppu.bg[n].hofs.toNat
  vofs := s.ppu.bg[n].vofs.toNat
  wrap := s.ppu.bg[n].cnt.getLsbD 13

/-- The width of a size class (61 R1023). -/
def bgWidth (sizeClass : Nat) : Nat := if sizeClass % 2 = 0 then 256 else 512

/-- The height of a size class (61 R1023). -/
def bgHeight (sizeClass : Nat) : Nat := if sizeClass < 2 then 256 else 512

/-- The screen block of a tile, by size class (61 R1024). -/
def screenBlock (sizeClass tx ty : Nat) : Nat :=
  match sizeClass with
  | 0 => 0
  | 1 => tx / 32
  | 2 => ty / 32
  | _ => tx / 32 + 2 * (ty / 32)

/-- A coordinate in a tile, mirrored where the flip bit is set (61 R1024). -/
def flipped (flip : Bool) (size k : Nat) : Nat := if flip then size - 1 - k else k

/-- The map entry at a scrolled pixel (61 R1024, R1025). -/
def mapEntry (s : State) (l : BackgroundLayer) (sx sy : Nat) : Half :=
  bgVram16 s (l.mapBase + screenBlock l.sizeClass (sx / 8) (sy / 8) * 0x800 + (sy / 8 % 32 * 32 + sx / 8 % 32) * 2)

/-- The pixel of a tile, at `px`, `py` after flips (61 R1024, R1026, R1027). -/
def tilePixel (s : State) (l : BackgroundLayer) (me : Half) (px py : Nat) : Pixel :=
  let tile := (me.extractLsb' 0 10).toNat
  if l.bpp8 then
    let i := (bgVram8 s (l.tileBase + tile * 64 + py * 8 + px)).toNat
    indexed i i
  else
    let i := nibble (bgVram8 s (l.tileBase + tile * 32 + py * 4 + px / 2)) px
    indexed i ((me.extractLsb' 12 4).toNat * 16 + i)

/-- `textPixel(n, x, y)` (61 R1024). -/
def textPixel (s : State) (n : Fin 4) (x y : Nat) : Pixel :=
  let l := backgroundLayer s n
  let sx := (x + l.hofs) % bgWidth l.sizeClass
  let sy := (y + l.vofs) % bgHeight l.sizeClass
  let me := mapEntry s l sx sy
  tilePixel s l me (flipped (me.getLsbD 10) 8 (sx % 8)) (flipped (me.getLsbD 11) 8 (sy % 8))

/-- The base of the selected frame in modes 4 and 5 (61 R1041, R1042). -/
def frameBase (s : State) : Nat := if s.ppu.dispcnt.getLsbD 4 then 0xA000 else 0

/-- The bitmap pixel of BG2 in mode 3 (61 R1040). -/
def bmp3 (s : State) (x y : Nat) : Pixel := .colour (directColour s (2 * (y * 240 + x)))

/-- The bitmap pixel of BG2 in mode 4 (61 R1041). -/
def bmp4 (s : State) (x y : Nat) : Pixel :=
  let i := (s.vram (frameBase s + y * 240 + x)).toNat
  indexed i i

/-- The bitmap pixel of BG2 in mode 5: transparent outside 160 x 128 (61 R1042). -/
def bmp5 (s : State) (x y : Nat) : Pixel :=
  if x < 160 ∧ y < 128 then .colour (directColour s (frameBase s + 2 * (y * 160 + x))) else .transparent

/-- The pixel of background `n` in a mode, transparent where the mode does not render it: affine backgrounds are not
rendered (61 R1020, R1022). The enable bit is `bgPixel`'s. -/
def modePixel (s : State) (mode : Nat) (n : Fin 4) (x y : Nat) : Pixel :=
  match mode with
  | 0 => textPixel s n x y
  | 1 => if n.val < 2 then textPixel s n x y else .transparent
  | 3 => if n = 2 then bmp3 s x y else .transparent
  | 4 => if n = 2 then bmp4 s x y else .transparent
  | 5 => if n = 2 then bmp5 s x y else .transparent
  | _ => .transparent

/-- The pixel of background `n` where its enable bit is set (61 R1021, R1040). -/
def bgPixel (s : State) (mode : Nat) (n : Fin 4) (x y : Nat) : Pixel :=
  if (backgroundLayer s n).enabled then modePixel s mode n x y else .transparent

/-! ### Sprites (61 R1050 to R1057) -/

/-- Attribute `j` of OAM entry `k` (61 R1051). -/
def oamAttr (s : State) (k j : Nat) : Half := s.oamByte (8 * k + 2 * j + 1) ++ s.oamByte (8 * k + 2 * j)

/-- The fields of a sprite that have an effect (61 R1051). -/
structure Sprite where
  y : Nat
  affine : Bool
  disabled : Bool
  renderMode : Nat
  bpp8 : Bool
  shape : Nat
  x : Int
  hflip : Bool
  vflip : Bool
  size : Nat
  tile : Nat
  priority : Nat
  palBank : Nat
  deriving DecidableEq, Repr

/-- OAM entry `k`, read afresh at every line (61 R1010, R1051). -/
def sprite (s : State) (k : Nat) : Sprite where
  y := ((oamAttr s k 0).extractLsb' 0 8).toNat
  affine := (oamAttr s k 0).getLsbD 8
  disabled := (oamAttr s k 0).getLsbD 9
  renderMode := ((oamAttr s k 0).extractLsb' 10 2).toNat
  bpp8 := (oamAttr s k 0).getLsbD 13
  shape := ((oamAttr s k 0).extractLsb' 14 2).toNat
  x := ((oamAttr s k 1).extractLsb' 0 9).toInt
  hflip := (oamAttr s k 1).getLsbD 12
  vflip := (oamAttr s k 1).getLsbD 13
  size := ((oamAttr s k 1).extractLsb' 14 2).toNat
  tile := ((oamAttr s k 2).extractLsb' 0 10).toNat
  priority := ((oamAttr s k 2).extractLsb' 10 2).toNat
  palBank := ((oamAttr s k 2).extractLsb' 12 4).toNat

/-- Width and height by shape and size (61 R1052); the prohibited shape has none (R1054). -/
def spriteSize (shape size : Nat) : Nat × Nat :=
  match shape, size with
  | 0, 0 => (8, 8)
  | 0, 1 => (16, 16)
  | 0, 2 => (32, 32)
  | 0, _ => (64, 64)
  | 1, 0 => (16, 8)
  | 1, 1 => (32, 8)
  | 1, 2 => (32, 16)
  | 1, _ => (64, 32)
  | 2, 0 => (8, 16)
  | 2, 1 => (8, 32)
  | 2, 2 => (16, 32)
  | 2, _ => (32, 64)
  | _, _ => (0, 0)

/-- A visible sprite: not affine, not disabled, a drawn render mode, a legal shape, and in a bitmap mode a tile of 512 or
above (61 R1053, R1054). -/
def spriteVisible (mode : Nat) (o : Sprite) : Bool :=
  !o.affine && !o.disabled && o.renderMode < 2 && o.shape ≠ 3 && !(3 ≤ mode && mode ≤ 5 && o.tile < 512)

/-- The row of a sprite that line `y` crosses (61 R1052, R1055). -/
def spriteRow (o : Sprite) (y : Nat) : Nat := (y + 256 - o.y) % 256

/-- The sprite covers a pixel (61 R1052). -/
def spriteCovers (o : Sprite) (x y : Nat) : Bool :=
  spriteRow o y < (spriteSize o.shape o.size).2 && o.x ≤ (x : Int) && (x : Int) - o.x < (spriteSize o.shape o.size).1

/-- The VRAM offset of byte `k` of the tile that starts at unit `u`: it wraps within the 32 KiB of sprite memory, so that no
fetch leaves VRAM (61 R1053, R1072). DEDUCED (log 25): the formula of R1053 wraps the unit alone, which agrees but for the
upper half of an 8-bpp tile at the last unit, where it leaves the array; there the model wraps as R1072 says. -/
def objOffset (u k : Nat) : Nat := 0x10000 + (u * 32 + k) % 0x8000

/-- `objTile`: the pixel of a sprite at `sx`, `sy` inside it, after flips (61 R1053). DEDUCED (log 25) where `objOffset` is. -/
def objTile (s : State) (o : Sprite) (sx sy : Nat) : Pixel :=
  let oneDim := s.ppu.dispcnt.getLsbD 6
  let rowUnits := (spriteSize o.shape o.size).1 / 8
  if o.bpp8 then
    let u := if oneDim then o.tile + (sy / 8 * rowUnits + sx / 8) * 2 else o.tile + sy / 8 * 32 + sx / 8 * 2
    let i := (s.vram (objOffset u (sy % 8 * 8 + sx % 8))).toNat
    indexed i (256 + i)
  else
    let u := if oneDim then o.tile + sy / 8 * rowUnits + sx / 8 else o.tile + sy / 8 * 32 + sx / 8
    let i := nibble (s.vram (objOffset u (sy % 8 * 4 + sx % 8 / 2))) (sx % 8)
    indexed i (256 + o.palBank * 16 + i)

/-- The pixel of a sprite at a screen position it covers (61 R1055). -/
def spritePixel (s : State) (o : Sprite) (x y : Nat) : Pixel :=
  objTile s o (flipped o.hflip (spriteSize o.shape o.size).1 ((x : Int) - o.x).toNat)
    (flipped o.vflip (spriteSize o.shape o.size).2 (spriteRow o y))

/-- OAM entry `k` as a candidate for the sprite layer's pixel: its priority and opaque pixel, or none (61 R1050 to R1055). -/
def candidate (s : State) (mode x y k : Nat) : Option (Nat × Pixel) :=
  let o := sprite s k
  if spriteVisible mode o && spriteCovers o x y && spritePixel s o x y ≠ .transparent then
    some (o.priority, spritePixel s o x y)
  else none

/-- The better of two candidates, the first of them of lower OAM index: the smaller priority, at equal priority the lower
index (61 R1056). -/
def better (a b : Option (Nat × Pixel)) : Option (Nat × Pixel) :=
  match a, b with
  | none, b => b
  | some a, none => some a
  | some a, some b => if b.1 < a.1 then some b else some a

/-- The best candidate among OAM entries `k` to `k + n - 1` (61 R1056). -/
def bestCandidate (s : State) (mode x y k n : Nat) : Option (Nat × Pixel) :=
  match n with
  | 0 => none
  | n + 1 => better (candidate s mode x y k) (bestCandidate s mode x y (k + 1) n)

/-- The sprite layer's pixel, of 128 OAM entries, where DISPCNT[12] is set (61 R1050, R1056). -/
def objPixel (s : State) (mode x y : Nat) : Option (Nat × Pixel) :=
  if s.ppu.dispcnt.getLsbD 12 then bestCandidate s mode x y 0 128 else none

/-! ### Compositing (61 R1060 to R1063) -/

/-- The backgrounds of priority `p`, ascending, that show an opaque pixel: the first one's colour (61 R1060). -/
def bgColour (s : State) (mode p x y : Nat) (ns : List (Fin 4)) : Option (BitVec 15) :=
  match ns with
  | [] => none
  | n :: rest =>
    if (backgroundLayer s n).priority = p then
      match (bgPixel s mode n x y).colour? s with
      | some c => some c
      | none => bgColour s mode p x y rest
    else bgColour s mode p x y rest

/-- The colour the layers of priority `p` give: a sprite before the backgrounds (61 R1060, R1061). -/
def layerColour (s : State) (mode x y : Nat) (obj : Option (Nat × Pixel)) (p : Nat) : Option (BitVec 15) :=
  match obj with
  | some o => if o.1 = p then o.2.colour? s else bgColour s mode p x y [0, 1, 2, 3]
  | none => bgColour s mode p x y [0, 1, 2, 3]

/-- The first colour of the priorities listed, or the backdrop `pal(0)` (61 R1060, R1062). -/
def firstColour (s : State) (mode x y : Nat) (obj : Option (Nat × Pixel)) (ps : List Nat) : BitVec 15 :=
  match ps with
  | [] => pal s 0
  | p :: rest =>
    match layerColour s mode x y obj p with
    | some c => c
    | none => firstColour s mode x y obj rest

/-- `compose(mode, x, y)`: modes 6 and 7 show the backdrop only (61 R1060, R1063). -/
def compose (s : State) (mode x y : Nat) : BitVec 15 :=
  if 6 ≤ mode then pal s 0 else firstColour s mode x y (objPixel s mode x y) [0, 1, 2, 3]

/-- The 240 pixels of line `y` (61 R1010). -/
def renderedRow (s : State) (y : Nat) : List Word :=
  (List.range lineWidth).map fun x => toRGBA (compose s s.bgMode x y)

/-- A row of a framebuffer. -/
def Frame.row (fb : Frame) (y : Nat) : List Word := Sparse.get blankRow fb y

/-- Pixel (x, y) of a framebuffer (10 R148). -/
def Frame.pixel (fb : Frame) (x y : Nat) : Word := (Frame.row fb y).getD x 0

/-- Writes a row of a framebuffer, keeping its canonical form. -/
def Frame.setRow (fb : Frame) (y : Nat) (row : List Word) : Frame := Sparse.set blankRow fb y row

/-- A line in mode 2, 6 or 7 reports the feature (61 R1022, R1063). -/
def reportMode (s : State) : State :=
  if s.bgMode = 2 ∨ 6 ≤ s.bgMode then s.report (.unimplementedFeature s.bgMode) else s

/-- `renderLine(y)` (61 R1010, R1063). -/
def renderLine (y : Nat) (s : State) : State :=
  (reportMode s).setPpu { s.ppu with fb := Frame.setRow s.ppu.fb y (renderedRow s y) }

/-! ### Ticks (61 R1001 to R1005, R1071) -/

/-- The HBlank event of a line (61 R1002, R1003). -/
def hblankEvent (s : State) : State :=
  let flagged := s.setPpu { s.ppu with hblankDone := true, dispstat := { s.ppu.dispstat with hblank := true } }
  if s.ppu.dispstat.hblankIrq then flagged.request 1 else flagged

/-- `vcountCheck()` (61 R1004). -/
def vcountCheck (s : State) : State :=
  let hit := s.ppu.line = s.ppu.dispstat.lyc.toNat
  let flagged := s.setPpu { s.ppu with dispstat := { s.ppu.dispstat with vmatch := decide hit } }
  if hit ∧ s.ppu.dispstat.vcountIrq then flagged.request 2 else flagged

/-- The frame callback's call, where one is set, with a copy of the framebuffer (60 R963). -/
def deliver (s : State) : State :=
  match s.callback with
  | none => s
  | some h => { s with delivered := (h, s.ppu.fb) :: s.delivered }

/-- `publishFrame()` (61 R1071). -/
def publishFrame (s : State) : State := deliver (s.setPpu { s.ppu with frameReady := true })

/-- VBlank entry (61 R1002, R1003). -/
def vblankEntry (s : State) : State :=
  let published := publishFrame (s.setPpu { s.ppu with dispstat := { s.ppu.dispstat with vblank := true } })
  if s.ppu.dispstat.vblankIrq then published.request 0 else published

/-- The line counter moves on; past the last line it wraps and VBlank is cleared (61 R1002). -/
def nextLine (s : State) : State :=
  let wraps := s.ppu.line + 1 = totalLines
  s.setPpu { s.ppu with
    lineCycle := 0
    hblankDone := false
    line := if wraps then 0 else s.ppu.line + 1
    dispstat := { s.ppu.dispstat with
      hblank := false
      vblank := if wraps then false else s.ppu.dispstat.vblank } }

/-- The end of a line: it is rendered if visible, the counter moves on, the VCount match is checked and VBlank is entered
on the change to line 160 (61 R1002). -/
def lineEnd (s : State) : State :=
  let rendered := if s.ppu.line < visibleLines then renderLine s.ppu.line s else s
  let checked := vcountCheck (nextLine rendered)
  if checked.ppu.line = visibleLines then vblankEntry checked else checked

/-- `tick()`: one cycle of the picture processor (61 R1002). -/
def tick (s : State) : State :=
  let counted := s.setPpu { s.ppu with lineCycle := s.ppu.lineCycle + 1 }
  if counted.ppu.lineCycle = hblankAt then hblankEvent counted
  else if counted.ppu.lineCycle = lineCyc then lineEnd counted
  else counted

/-- `advance(c)`: `c` ticks (61 R1001). -/
def advance (c : Nat) (s : State) : State :=
  match c with
  | 0 => s
  | c + 1 => advance c (tick s)

end Sys2Proof.Machine
end

