-- ==== Sys2Proof/Machine/Timing.lean ====
section
/-! DEFINITION. The cycle count a step returns (00 R8; 60 R904; 70 R1120). -/

namespace Sys2Proof

/-- The functions of instruction and state that `CYC` can be, by number, each as what it has above 1 (00 R8; log 2). No body:
a statement about every parameter value is one about every such function. -/
opaque Config.cycAbove : Nat → Instr → Machine.State → Nat

end Sys2Proof

namespace Sys2Proof.Machine

/-- `CYC` of an instruction in the state it runs in (00 R8; log 2). -/
def cycOf (i : Instr) (s : State) : Nat :=
  match s.params.cyc with
  | .fixed above => 1 + above
  | .function k => 1 + Config.cycAbove k i s

/-- `HALT_CYC` (00 R8). -/
def haltCyc (s : State) : Nat := 1 + s.params.haltExtra

/-- `IRQ_CYC` (00 R8). -/
def irqCyc (s : State) : Nat := 1 + s.params.irqExtra

/-- `HLE_CYC(n)` (00 R8, 47 R826). -/
def hleCyc (s : State) (n : Byte) : Nat := 1 + Sparse.get 0 s.params.hleExtra n.toNat

/-- `PPU_BATCH` (00 R8). -/
def ppuBatch (s : State) : Nat := 1 + s.params.ppuBatchExtra

/-- What an instruction's cost depends on: a decode anomaly and a system call have their own (70 R1120). -/
inductive CostKind where
  | plain
  | anomaly (c : Cond)
  | syscall (c : Cond) (n : Byte)
  deriving DecidableEq, Repr

/-- The kind of an instruction's cost. -/
def costKind (i : Instr) : CostKind :=
  match i with
  | .undMulSwap w => .anomaly (armCond w)
  | .undHalfword w => .anomaly (armCond w)
  | .undPsr w => .anomaly (armCond w)
  | .undMsrImm w => .anomaly (armCond w)
  | .und011 w => .anomaly (armCond w)
  | .undCopTransfer w => .anomaly (armCond w)
  | .undCopOp w => .anomaly (armCond w)
  | .swi c v => .syscall c (v.extractLsb' 16 8)
  | .tUndB1 _ => .anomaly .al
  | .tUndB2 _ => .anomaly .al
  | .tUndB6 _ => .anomaly .al
  | .tUndB8 _ => .anomaly .al
  | .tUndBE _ => .anomaly .al
  | .tUndDE _ => .anomaly .al
  | .tSwi v => .syscall .al v
  | .tUndE8 _ => .anomaly .al
  | .mul _ _ _ _ _ _ | .mla _ _ _ _ _ _ | .umull _ _ _ _ _ _ | .umlal _ _ _ _ _ _ | .smull _ _ _ _ _ _
  | .smlal _ _ _ _ _ _ | .swp _ _ _ _ | .swpb _ _ _ _ | .ldrh _ _ _ _ _ _ _ | .ldrsb _ _ _ _ _ _ _
  | .ldrsh _ _ _ _ _ _ _ | .strh _ _ _ _ _ _ _ | .mrs _ _ _ | .msrReg _ _ _ _ | .bx _ _ | .msrImm _ _ _ _ _
  | .andImm _ _ _ _ _ _ | .andRsi _ _ _ _ _ _ _ | .andRsr _ _ _ _ _ _ _ | .eorImm _ _ _ _ _ _ | .eorRsi _ _ _ _ _ _ _
  | .eorRsr _ _ _ _ _ _ _ | .subImm _ _ _ _ _ _ | .subRsi _ _ _ _ _ _ _ | .subRsr _ _ _ _ _ _ _ | .rsbImm _ _ _ _ _ _
  | .rsbRsi _ _ _ _ _ _ _ | .rsbRsr _ _ _ _ _ _ _ | .addImm _ _ _ _ _ _ | .addRsi _ _ _ _ _ _ _
  | .addRsr _ _ _ _ _ _ _ | .adcImm _ _ _ _ _ _ | .adcRsi _ _ _ _ _ _ _ | .adcRsr _ _ _ _ _ _ _ | .sbcImm _ _ _ _ _ _
  | .sbcRsi _ _ _ _ _ _ _ | .sbcRsr _ _ _ _ _ _ _ | .rscImm _ _ _ _ _ _ | .rscRsi _ _ _ _ _ _ _
  | .rscRsr _ _ _ _ _ _ _ | .tstImm _ _ _ _ _ | .tstRsi _ _ _ _ _ _ | .tstRsr _ _ _ _ _ _ | .teqImm _ _ _ _ _
  | .teqRsi _ _ _ _ _ _ | .teqRsr _ _ _ _ _ _ | .cmpImm _ _ _ _ _ | .cmpRsi _ _ _ _ _ _ | .cmpRsr _ _ _ _ _ _
  | .cmnImm _ _ _ _ _ | .cmnRsi _ _ _ _ _ _ | .cmnRsr _ _ _ _ _ _ | .orrImm _ _ _ _ _ _ | .orrRsi _ _ _ _ _ _ _
  | .orrRsr _ _ _ _ _ _ _ | .movImm _ _ _ _ _ _ | .movRsi _ _ _ _ _ _ _ | .movRsr _ _ _ _ _ _ _ | .bicImm _ _ _ _ _ _
  | .bicRsi _ _ _ _ _ _ _ | .bicRsr _ _ _ _ _ _ _ | .mvnImm _ _ _ _ _ _ | .mvnRsi _ _ _ _ _ _ _
  | .mvnRsr _ _ _ _ _ _ _ | .ldrPre _ _ _ _ _ _ | .ldrPost _ _ _ _ _ | .ldrt _ _ _ _ _ | .strPre _ _ _ _ _ _
  | .strPost _ _ _ _ _ | .strt _ _ _ _ _ | .ldrbPre _ _ _ _ _ _ | .ldrbPost _ _ _ _ _ | .ldrbt _ _ _ _ _
  | .strbPre _ _ _ _ _ _ | .strbPost _ _ _ _ _ | .strbt _ _ _ _ _ | .ldm _ _ _ _ _ _ _ | .stm _ _ _ _ _ _ _ | .b _ _
  | .bl _ _ | .tLslImm _ _ _ | .tLsrImm _ _ _ | .tAsrImm _ _ _ | .tAddReg _ _ _ | .tSubReg _ _ _ | .tAddImm3 _ _ _
  | .tSubImm3 _ _ _ | .tMovImm _ _ | .tCmpImm _ _ | .tAddImm8 _ _ | .tSubImm8 _ _ | .tAnd _ _ | .tEor _ _
  | .tLslReg _ _ | .tLsrReg _ _ | .tAsrReg _ _ | .tAdc _ _ | .tSbc _ _ | .tRor _ _ | .tTst _ _ | .tNeg _ _
  | .tCmpReg _ _ | .tCmn _ _ | .tOrr _ _ | .tMul _ _ | .tBic _ _ | .tMvn _ _ | .tAddHi _ _ | .tCmpHi _ _
  | .tMovHi _ _ | .tBx _ _ _ | .tLdrPc _ _ | .tStrReg _ _ _ | .tStrhReg _ _ _ | .tStrbReg _ _ _ | .tLdsb _ _ _
  | .tLdrReg _ _ _ | .tLdrhReg _ _ _ | .tLdrbReg _ _ _ | .tLdsh _ _ _ | .tStrImm _ _ _ | .tLdrImm _ _ _
  | .tStrbImm _ _ _ | .tLdrbImm _ _ _ | .tStrhImm _ _ _ | .tLdrhImm _ _ _ | .tStrSp _ _ | .tLdrSp _ _ | .tAddPc _ _
  | .tAddSp _ _ | .tAddSpImm _ | .tSubSpImm _ | .tPush _ _ | .tPop _ _ | .tStmia _ _ | .tLdmia _ _ | .tBcond _ _
  | .tB _ | .tBlHi _ | .tBlLo _ => .plain

/-- The cycles an instruction returns, from the state it runs in: an anomaly whose condition passes 1, a system call whose
condition passes and a BiosHLE runs `HLE_CYC(n)`, any other `CYC` (30 R305; 43 R610, R620, R621; 60 R925). -/
def instrCost (i : Instr) (s : State) : Nat :=
  match costKind i with
  | .plain => cycOf i s
  | .anomaly c => if condPass c s.cpsr then 1 else cycOf i s
  | .syscall c n => if condPass c s.cpsr && s.params.hleInstalled then hleCyc s n else cycOf i s

end Sys2Proof.Machine
end

