-- ==== Sys2Proof/Machine/Cpu.lean ====
section
/-! DEFINITION. `CPUCore.step()`: fetch, the wake tests, the interrupt poll and one instruction (60 R900 to R904); and what the
orchestrator does around it: the counts, `advance` and the external interrupt requests (60 R915, R962; log 7). -/

namespace Sys2Proof.Machine

/-- The instruction word at the PC, in the current instruction set (20 R213, 30 R300). -/
def fetch (s : State) : Code :=
  if s.cpsr.t then .thumb ((s.memRead s.pc .b2).extractLsb' 0 16) else .arm (s.memRead s.pc .b4)

/-- A word that matches no row is a decode anomaly, as one of an `UNDEFINED` row is, whose `CYC` it costs where its
condition fails (30 R305, R320; log 18); no word does. -/
def runUnmatched (code : Code) (s : State) : Host.Outcome (State × Nat) Fault Refusal :=
  match code with
  | .arm w => if condPass (armCond w) s.cpsr then .next (s.anomaly 4 w, 1) else .next (s.advancePc 4, cycOf (.und011 w) s)
  | .thumb h => .next (s.anomaly 2 (zext h), 1)

/-- One instruction: its meaning, and its cost from the state it runs in (60 R904). -/
def runInstr (i : Instr) (s : State) : Host.Outcome (State × Nat) Fault Refusal :=
  match exec i s with
  | .next t => .next (t, instrCost i s)
  | .fault f => .fault f
  | .refused r => .refused r

/-- What the fetched word executes. -/
def runCode (code : Code) (s : State) : Host.Outcome (State × Nat) Fault Refusal :=
  match decode code with
  | none => runUnmatched code s
  | some i => runInstr i s

/-- One more instruction step has run, decode anomalies included (60 R904; 10 R123; log 19). -/
def State.counted (s : State) : State := { s with instrCount := s.instrCount + 1 }

/-- An instruction step: fetch, decode, execute, count (60 R904). -/
def instrStep (s : State) : Host.Outcome (State × Nat) Fault Refusal :=
  match runCode (fetch s) s with
  | .next r => .next (r.1.counted, r.2)
  | .fault f => .fault f
  | .refused r => .refused r

/-- The CPU leaves Stop (60 R900). -/
def State.unstopped (s : State) : State := { s with stopped := false }

/-- The CPU leaves Halt or IntrWait (60 R900). -/
def State.unhalted (s : State) : State := { s with halted := false, waitKind := .none }

/-- The Stop wake condition (60 R944). -/
def stopWakes (s : State) : Bool := s.params.stopWakeMask &&& s.ic.ie.setWidth 16 &&& s.ic.iff.setWidth 16 ≠ 0

/-- The IntrWait wake condition (60 R941). -/
def intrWaitWakes (s : State) : Bool := s.ic.shadow &&& s.waitMask ≠ 0

/-- The Stop test of a step: none where the CPU stays stopped (60 R900). -/
def wakeStop (s : State) : Option State := if s.stopped then (if stopWakes s then some s.unstopped else none) else some s

/-- The Halt and IntrWait tests of a step: none where the CPU stays halted. Waking from IntrWait clears the matched SHADOW
bits; a halted CPU of neither kind, which no run reaches, stays halted (60 R900, R940, R941). -/
def wakeHalt (s : State) : Option State :=
  if s.halted then
    match s.waitKind with
    | .halt => if s.pendingInterrupt.isSome then some s.unhalted else none
    | .intrWait =>
      if intrWaitWakes s then some (s.setIc { s.ic with shadow := s.ic.shadow &&& ~~~s.waitMask }).unhalted else none
    | .none => none
  else some s

/-- The step of a CPU that is neither stopped nor halted: an IRQ where one is pending and I is clear, else one
instruction (60 R900, R901). -/
def awakeStep (s : State) : Host.Outcome (State × Nat) Fault Refusal :=
  if s.pendingInterrupt.isSome && !s.cpsr.i then .next (s.irqEntry, irqCyc s) else instrStep s

/-- `CPUCore.step()`: the state and the cycle count it returns. A wake falls through to the interrupt poll in the same
step. A CPU that has left Stop and is still halted keeps that wake (60 R900). -/
def cpuStep (s : State) : Host.Outcome (State × Nat) Fault Refusal :=
  if s.faulted then .fault .faultedCpu
  else
    match wakeStop s with
    | none => .next (s, haltCyc s)
    | some s1 =>
      match wakeHalt s1 with
      | none => .next (s1, haltCyc s1)
      | some s2 => awakeStep s2

/-- The cycles of a step join `cycleCount` (60 R904; 10 R123; log 19) and those still to be given to `advance` (60 R962). -/
def addCycles (c : Nat) (s : State) : State :=
  { s with cycleCount := s.cycleCount + BitVec.ofNat 64 c, pendingCycles := s.pendingCycles + c }

/-- The accumulated cycles are given to `advance` (60 R962). -/
def flush (s : State) : State := advance s.pendingCycles { s with pendingCycles := 0 }

/-- The orchestrator calls `advance` where `PPU_BATCH` cycles have come together (60 R962). -/
def runPpu (s : State) : State := if ppuBatch s ≤ s.pendingCycles then flush s else s

/-- The requests of the listed bits. -/
def requestAll (bits : List Nat) (s : State) : State :=
  match bits with
  | [] => s
  | b :: rest => requestAll rest (s.request b)

/-- The external interrupt bits, 3 to 13, that `EXT_IRQ` requests at the current cycle count (60 R915; log 4). -/
def externalBits (s : State) : List Nat :=
  (List.range 14).filter fun b => 3 ≤ b && (Sparse.get 0 s.params.extIrq s.cycleCount.toNat).getLsbD b

/-- The external requests of a step boundary (60 R915). -/
def runExternal (s : State) : State := requestAll (externalBits s) s

/-- What follows a step of `c` cycles: the counts, the picture processor, the external requests (60 R915, R962; log 4, log 7). -/
def afterStep (c : Nat) (s : State) : State := runExternal (runPpu (addCycles c s))

/-! ### Placing an instruction where the next step fetches it -/

/-- Stores a byte at a place whatever rules a program's store there obeys: in the BIOS image, the unmapped table or the
cartridge ROM, whose length grows to hold it. A device byte or another collaborator's byte takes an ordinary write. -/
def pokeByte (a : Word) (b : Byte) (s : State) : State :=
  match s.place a with
  | .bios off => { s with params := { s.params with bios := Sparse.set 0 s.params.bios off b } }
  | .unmapped => s
  | .dev _ _ => s.write8 a b
  | .ram key => s.setMem (Memory.set s.mem key b)
  | .rom idx =>
    { s with
      mem := Memory.set s.mem (Region.cartridge.base + idx) b
      cart := { s.cart with romLength := max s.cart.romLength (idx + 1) } }
  | .void => s
  | .external _ => s.write8 a b

/-- Stores bytes at ascending addresses. -/
def pokeBytes (bs : List Byte) (a : Word) (s : State) : State :=
  match bs with
  | [] => s
  | b :: rest => pokeBytes rest (a + 1) (pokeByte a b s)

/-- Puts a value in the unmapped table, where the PC points there: such a fetch reads one whole value (20 R203). -/
def pokeUnmapped (thumb : Bool) (w : Nat) (s : State) : State :=
  if regionOf s.pc = .unmapped then
    { s with params := { s.params with
        unmappedRead := Sparse.set 0 s.params.unmappedRead (8 * s.pc.toNat + if thumb then 2 else 4) (BitVec.ofNat 32 w) } }
  else s

/-- The CPU is about to fetch in the given instruction set: not faulted, stopped or halted, the PC aligned, and IRQs disabled
only where one would be taken in place of the instruction. -/
def readyToFetch (thumb : Bool) (s : State) : State :=
  { s with
    faulted := false
    stopped := false
    halted := false
    waitKind := .none
    pc := if thumb then align2 s.pc else align4 s.pc
    cpsr := { s.cpsr with t := thumb, i := s.cpsr.i || s.pendingInterrupt.isSome } }

/-- The instruction of `nbits` table bits placed where the next step fetches (log 16). -/
def placeFetchWord (nbits w : Nat) (s : State) : State :=
  let ready := readyToFetch (isThumbWidth nbits) s
  pokeUnmapped (isThumbWidth nbits) w
    (pokeBytes (leBytes (if isThumbWidth nbits then 2 else 4) w) ready.pc ready)

end Sys2Proof.Machine
end

