-- ==== Sys2Proof/Machine/Step.lean ====
section
/-! DEFINITION. The machine's step: one step of the CPU and what the orchestrator does before the next one (60 R900, R962; log 7). -/

namespace Sys2Proof.Machine

/-- One step. -/
def step (s : State) : Host.Outcome State Fault Refusal :=
  match cpuStep s with
  | .next r => .next (afterStep r.2 r.1)
  | .fault f => .fault f
  | .refused r => .refused r

/-- The state with an instruction stored where `step` fetches its next instruction (log 16). -/
def State.withFetchWord (s : State) (nbits w : Nat) : State := placeFetchWord nbits w s

end Sys2Proof.Machine
end

