-- ==== Sys2Proof/Machine/Session.lean ====
section
/-! DEFINITION. The host operations of a session (60 R960 to R965). Pausing freezes the loop and keeps all state (60 R964): it
is no operation on the state. -/

namespace Sys2Proof.Machine

/-- A session that could not be created (60 R960). -/
inductive LoadError where
  | resourceUnavailable
  deriving DecidableEq, Repr

/-- The cells of a ROM image from index `i` on. -/
def romCells (i : Nat) (image : List Byte) : List Host.Cell :=
  match image with
  | [] => []
  | b :: rest => if b = 0 then romCells (i + 1) rest else (Region.cartridge.base + i, b) :: romCells (i + 1) rest

/-- The cells of a memory that belong to the cartridge and not to the block (10 R150). -/
def cartridgeCells (m : List Host.Cell) : List Host.Cell := m.filter fun e => Region.cartridge.base ≤ e.1

/-- The cells of a memory that belong to the block. -/
def blockCells (m : List Host.Cell) : List Host.Cell := m.filter fun e => e.1 < Region.cartridge.base

/-- `Session.reset()`: every piece of state of the block gets its reset value; the cartridge is kept, SRAM included; the
host's log and callback are the host's (60 R961; 70 R1100; log 5). -/
def sessionReset (s : State) : State :=
  { State.reset with
    params := s.params
    cart := s.cart
    mem := cartridgeCells s.mem
    log := s.log
    freeIdx := s.freeIdx
    callback := s.callback
    delivered := s.delivered }

/-- The longest ROM the reference cartridge addresses (20 R214). -/
def romLimit : Nat := 0x02000000

/-- `loadCartridge(bytes)`: a missing or unreadable image fails here and no session exists (60 R960; 20 R215). -/
def loadCartridge (params : Params) (image : Option (List Byte)) : Except LoadError State :=
  match image with
  | none => .error .resourceUnavailable
  | some bytes =>
    .ok (sessionReset { State.reset with
      params := params
      cart := { romLength := (bytes.take romLimit).length, collaborator := none }
      mem := romCells 0 (bytes.take romLimit) })

/-- A session over a cartridge collaborator other than the reference one, in its state `st` (20 R214; log 5). -/
def loadCollaborator (params : Params) (st : Nat) : State :=
  sessionReset { State.reset with params := params, cart := { romLength := 0, collaborator := some st } }

/-- `setFrameCallback(fn)`: a later callback replaces the earlier one (60 R963; log 15). -/
def setFrameCallback (handle : Nat) (s : State) : State := { s with callback := some handle }

/-- The record of a step that ended in a fault. A CPU that had faulted before has no step, so there is no event and nothing
changes (60 R902, R903; log 10). -/
def recordFault (f : Fault) (s : State) : State :=
  if s.faulted then s else { s with faulted := true, log := .fault f :: s.log }

/-- What `runFrame` returns (60 R962). `unfinished` is a run longer than any frame, which does not happen (log 20). -/
inductive FrameResult where
  | frame (fb : Frame)
  | fault (f : Fault)
  | unfinished
  deriving DecidableEq, Repr

/-- The loop of `runFrame` (60 R962). -/
def frameLoop (fuel : Nat) (s : State) : FrameResult × State :=
  match fuel with
  | 0 => (.unfinished, s)
  | fuel + 1 =>
    if s.ppu.frameReady then (.frame (flush s).ppu.fb, flush s)
    else
      match step s with
      | .next t => frameLoop fuel t
      | .fault f => (.fault f, recordFault f s)
      | .refused _ => (.unfinished, s)

/-- More steps than a frame can take: each returns at least one cycle, and a VBlank entry comes within 280,896
advanced cycles (61 R1005). -/
def frameFuel (s : State) : Nat := 280896 + ppuBatch s + 1

/-- `runFrame()` (60 R962). -/
def runFrame (s : State) : FrameResult × State :=
  frameLoop (frameFuel s) { s with ppu := { s.ppu with frameReady := false }, pendingCycles := 0 }

/-- `save()`: the blob holds every field; its layout is outside the spec (60 R965). -/
def save (s : State) : State := s

/-- `restore(blob)`: replaces every piece of state of 10_state.md and `faulted`; the cartridge, the parameters, the host's
log and callback stay the session's (60 R965; log 21). -/
def restore (blob s : State) : State :=
  { blob with
    params := s.params
    cart := s.cart
    mem := blockCells blob.mem ++ cartridgeCells s.mem
    log := s.log
    freeIdx := s.freeIdx
    callback := s.callback
    delivered := s.delivered }

end Sys2Proof.Machine
end

