-- ==== Sys2Proof/Safety.lean ====
section
/-! DEFINITION. What counts as a sound state and a safe run, in the terms the claims use. -/

namespace Sys2Proof.Machine

/-- The PC is aligned by the instruction set: a multiple of 2 in Thumb state, of 4 in ARM state (10 R108). -/
def State.pcAligned (s : State) : Bool :=
  if s.cpsr.t then s.pc.extractLsb' 0 1 = 0 else s.pc.extractLsb' 0 2 = 0

/-- The CPU is halted exactly where a call has said what it waits for (10 R121). -/
def State.waitOk (s : State) : Bool := s.halted == decide (s.waitKind ≠ .none)

/-- The picture processor's counters are in range, and its status flags agree with them (10 R147; 61 R1003). -/
def Ppu.countersOk (p : Ppu) : Bool :=
  p.line < totalLines && p.lineCycle < lineCyc && p.dispstat.vblank == decide (visibleLines ≤ p.line) &&
    p.dispstat.hblank == decide (hblankAt ≤ p.lineCycle) && p.hblankDone == decide (hblankAt ≤ p.lineCycle)

/-- A framebuffer in canonical form: at most the 160 rows, each of 240 pixels (10 R148). -/
def Frame.wf (fb : Frame) : Bool :=
  Sparse.wf blankRow fb && fb.all fun e => e.1 < visibleLines && e.2.length == lineWidth

/-- The key is the flat storage byte of an intercepted register (20 R230, R232). -/
def isShadowedKey (key : Nat) : Bool :=
  (Region.io.base ≤ key && key < Region.io.base + Region.io.size && (ioDevice ((key - Region.io.base) / 2)).isSome) ||
    (key - Region.iwram.base) / 2 == 0x3FFC && Region.iwram.base ≤ key

/-- No flat storage byte of an intercepted register is listed: it keeps its reset value (20 R232). -/
def Memory.unshadowed (m : List Host.Cell) : Bool := m.all fun e => !isShadowedKey e.1

/-- A sound state: the invariant that every step keeps. -/
def State.Inv (s : State) : Prop :=
  s.pcAligned = true ∧ s.waitOk = true ∧ s.ppu.countersOk = true ∧ Frame.wf s.ppu.fb = true ∧ Memory.wf s.mem = true ∧
    Memory.unshadowed s.mem = true

/-- The step of a state ends in a next state. -/
def State.stepsOn (s : State) : Prop := ∃ t, step s = .next t

/-- `t` is reached from `s` in `n` steps. -/
def Reaches (n : Nat) (s t : State) : Prop :=
  match n with
  | 0 => t = s
  | n + 1 => ∃ u, step s = .next u ∧ Reaches n u t

/-- A safe run: no state reached within `n` steps ends in a fault. -/
def SafeRun (n : Nat) (s : State) : Prop := ∀ k t, k < n → Reaches k s t → t.stepsOn

end Sys2Proof.Machine
end

