-- ==== Sys2Proof/Certificates/Slice0/Obligations.lean ====
section
/-! DEFINITION. The statements for the provers. The first part is the vocabulary they share, written from the rules of spec/
and not from the meanings: the exact arithmetic behind the flags, what each instruction writes and stores, and where the
rules call it UNPREDICTABLE. -/

namespace Sys2Proof.Claims

open Sys2Proof.Machine

/-! ### Results -/

/-- The outcome is a next state, and `P` holds of it. -/
def Completes (o : Host.Outcome State Fault Refusal) (P : State → Prop) : Prop := ∃ t, o = .next t ∧ P t

/-- `R[n]` of the current bank for n from 0 to 14. -/
def reg (s : State) (n : Reg) : Word := s.regOf s.cpsr.mode 0 n

/-- The flags of a state. -/
def FlagsAre (t : State) (n z c v : Bool) : Prop := t.cpsr.n = n ∧ t.cpsr.z = z ∧ t.cpsr.c = c ∧ t.cpsr.v = v

/-- N and Z of a 32-bit result, C and V as given (40 R408). -/
def ResultFlags (t : State) (r : Word) (c v : Bool) : Prop := FlagsAre t (r.getLsbD 31) (decide (r = 0)) c v

/-- `R[rd] <- v` in an ARM instruction and the PC after it: a write of R15 branches to `v AND 0xFFFFFFFC` (10 R107). -/
def ArmWrites (s t : State) (rd : Reg) (v : Word) : Prop :=
  if rd = 15 then t.pc = v &&& 0xFFFFFFFC else reg t rd = v ∧ t.pc = s.pc + 4

/-- The same in a Thumb instruction (10 R107). -/
def ThumbWrites (s t : State) (rd : Reg) (v : Word) : Prop :=
  if rd = 15 then t.pc = v &&& 0xFFFFFFFE else reg t rd = v ∧ t.pc = s.pc + 2

/-- Two states hold the same memory, interrupt controller, picture processor and cartridge. -/
def SameUnits (t u : State) : Prop := t.mem = u.mem ∧ t.ic = u.ic ∧ t.ppu = u.ppu ∧ t.cart = u.cart

/-- What no instruction of exec touches: the counters, the wait state's companions and the host's side. -/
def SameHost (s t : State) : Prop :=
  t.faulted = s.faulted ∧ t.cycleCount = s.cycleCount ∧ t.instrCount = s.instrCount ∧ t.params = s.params ∧
    t.pendingCycles = s.pendingCycles ∧ t.callback = s.callback ∧ t.delivered = s.delivered

/-- The wait state (10 R120). -/
def SameWait (s t : State) : Prop :=
  t.halted = s.halted ∧ t.stopped = s.stopped ∧ t.waitKind = s.waitKind ∧ t.waitMask = s.waitMask

/-! ### Data processing, as exact arithmetic (00 R13, 40) -/

/-- The three operand forms of a data-processing instruction (30 R301). -/
inductive DpForm where
  | imm (rot : BitVec 4) (imm8 : BitVec 8)
  | rsi (shImm : BitVec 5) (sh : ShiftType) (rm : Reg)
  | rsr (rs : Reg) (sh : ShiftType) (rm : Reg)

/-- The instruction of an operation and an operand form; TST, TEQ, CMP and CMN have no S bit of their own. -/
def dpInstr (op : DpOp) (f : DpForm) (c : Cond) (sf : Bool) (rn rd : Reg) : Instr :=
  match op, f with
  | .and, .imm r i => .andImm c sf rn rd r i
  | .and, .rsi n h m => .andRsi c sf rn rd n h m
  | .and, .rsr x h m => .andRsr c sf rn rd x h m
  | .eor, .imm r i => .eorImm c sf rn rd r i
  | .eor, .rsi n h m => .eorRsi c sf rn rd n h m
  | .eor, .rsr x h m => .eorRsr c sf rn rd x h m
  | .sub, .imm r i => .subImm c sf rn rd r i
  | .sub, .rsi n h m => .subRsi c sf rn rd n h m
  | .sub, .rsr x h m => .subRsr c sf rn rd x h m
  | .rsb, .imm r i => .rsbImm c sf rn rd r i
  | .rsb, .rsi n h m => .rsbRsi c sf rn rd n h m
  | .rsb, .rsr x h m => .rsbRsr c sf rn rd x h m
  | .add, .imm r i => .addImm c sf rn rd r i
  | .add, .rsi n h m => .addRsi c sf rn rd n h m
  | .add, .rsr x h m => .addRsr c sf rn rd x h m
  | .adc, .imm r i => .adcImm c sf rn rd r i
  | .adc, .rsi n h m => .adcRsi c sf rn rd n h m
  | .adc, .rsr x h m => .adcRsr c sf rn rd x h m
  | .sbc, .imm r i => .sbcImm c sf rn rd r i
  | .sbc, .rsi n h m => .sbcRsi c sf rn rd n h m
  | .sbc, .rsr x h m => .sbcRsr c sf rn rd x h m
  | .rsc, .imm r i => .rscImm c sf rn rd r i
  | .rsc, .rsi n h m => .rscRsi c sf rn rd n h m
  | .rsc, .rsr x h m => .rscRsr c sf rn rd x h m
  | .tst, .imm r i => .tstImm c rn rd r i
  | .tst, .rsi n h m => .tstRsi c rn rd n h m
  | .tst, .rsr x h m => .tstRsr c rn rd x h m
  | .teq, .imm r i => .teqImm c rn rd r i
  | .teq, .rsi n h m => .teqRsi c rn rd n h m
  | .teq, .rsr x h m => .teqRsr c rn rd x h m
  | .cmp, .imm r i => .cmpImm c rn rd r i
  | .cmp, .rsi n h m => .cmpRsi c rn rd n h m
  | .cmp, .rsr x h m => .cmpRsr c rn rd x h m
  | .cmn, .imm r i => .cmnImm c rn rd r i
  | .cmn, .rsi n h m => .cmnRsi c rn rd n h m
  | .cmn, .rsr x h m => .cmnRsr c rn rd x h m
  | .orr, .imm r i => .orrImm c sf rn rd r i
  | .orr, .rsi n h m => .orrRsi c sf rn rd n h m
  | .orr, .rsr x h m => .orrRsr c sf rn rd x h m
  | .mov, .imm r i => .movImm c sf rn rd r i
  | .mov, .rsi n h m => .movRsi c sf rn rd n h m
  | .mov, .rsr x h m => .movRsr c sf rn rd x h m
  | .bic, .imm r i => .bicImm c sf rn rd r i
  | .bic, .rsi n h m => .bicRsi c sf rn rd n h m
  | .bic, .rsr x h m => .bicRsr c sf rn rd x h m
  | .mvn, .imm r i => .mvnImm c sf rn rd r i
  | .mvn, .rsi n h m => .mvnRsi c sf rn rd n h m
  | .mvn, .rsr x h m => .mvnRsr c sf rn rd x h m

/-- The shifter's value and carry by immediate amount, with the four substitutions for 0 (40 R406). -/
def shiftedBy (n : BitVec 5) (sh : ShiftType) (m : Word) (cin : Bool) : Word × Bool :=
  match sh with
  | .lsl => shiftByAmount .lsl m n.toNat cin
  | .lsr => shiftByAmount .lsr m (if n = 0 then 32 else n.toNat) cin
  | .asr => shiftByAmount .asr m (if n = 0 then 32 else n.toNat) cin
  | .ror => if n = 0 then rrxOut m cin else shiftByAmount .ror m n.toNat cin

/-- The second operand and its carry (40 R405 to R407). -/
def operand2 (s : State) (f : DpForm) : Word × Bool :=
  match f with
  | .imm rot imm8 =>
    let v := (imm8.setWidth 32).rotateRight (2 * rot.toNat)
    (v, if rot = 0 then s.cpsr.c else v.getLsbD 31)
  | .rsi n sh rm => shiftedBy n sh (s.regArm rm) s.cpsr.c
  | .rsr rs sh rm => shiftByAmount sh (s.regArm rm) ((s.regArm rs).toNat % 256) s.cpsr.c

/-- The eight logical operations (40 R409). -/
def isLogical (op : DpOp) : Bool :=
  match op with
  | .and => true | .eor => true | .tst => true | .teq => true | .orr => true | .mov => true | .bic => true | .mvn => true
  | .sub => false | .rsb => false | .add => false | .adc => false | .sbc => false | .rsc => false | .cmp => false
  | .cmn => false

/-- The result of a logical operation, bit by bit (40 R413, R414, R421, R422, R425 to R428). -/
def logicalValue (op : DpOp) (a b : Word) : Word :=
  match op with
  | .and => a &&& b | .tst => a &&& b
  | .eor => a ^^^ b | .teq => a ^^^ b
  | .orr => a ||| b
  | .mov => b
  | .bic => a &&& ~~~b
  | .mvn => ~~~b
  | .sub => 0 | .rsb => 0 | .add => 0 | .adc => 0 | .sbc => 0 | .rsc => 0 | .cmp => 0 | .cmn => 0

/-- The exact result of an arithmetic operation on integers, `c` the carry flag before it (40 R415 to R420, R423, R424). -/
def exact (op : DpOp) (a b : Int) (c : Bool) : Int :=
  match op with
  | .add => a + b | .cmn => a + b
  | .adc => a + b + c.toNat
  | .sub => a - b | .cmp => a - b
  | .sbc => a - b - (1 - c.toNat)
  | .rsb => b - a
  | .rsc => b - a - (1 - c.toNat)
  | .and => 0 | .eor => 0 | .tst => 0 | .teq => 0 | .orr => 0 | .mov => 0 | .bic => 0 | .mvn => 0

/-- The three additions; the other arithmetic operations subtract. -/
def isAddition (op : DpOp) : Bool :=
  match op with
  | .add => true | .adc => true | .cmn => true
  | .sub => false | .rsb => false | .sbc => false | .rsc => false | .cmp => false
  | .and => false | .eor => false | .tst => false | .teq => false | .orr => false | .mov => false | .bic => false
  | .mvn => false

/-- The 32-bit result of an arithmetic operation. -/
def arithValue (op : DpOp) (a b : Word) (c : Bool) : Word := BitVec.ofInt 32 (exact op a.toNat b.toNat c)

/-- C: the unsigned sum does not fit in 32 bits, or the unsigned difference is not negative (00 R13). -/
def arithC (op : DpOp) (a b : Word) (c : Bool) : Bool :=
  if isAddition op then decide (2 ^ 32 ≤ exact op a.toNat b.toNat c) else decide (0 ≤ exact op a.toNat b.toNat c)

/-- V: the exact signed result does not fit in 32 bits (00 R13). -/
def arithV (op : DpOp) (a b : Word) (c : Bool) : Bool :=
  !(decide (-2 ^ 31 ≤ exact op a.toInt b.toInt c) && decide (exact op a.toInt b.toInt c < 2 ^ 31))

/-- The result of any of the sixteen operations. -/
def dpValue (op : DpOp) (a b : Word) (c : Bool) : Word := if isLogical op then logicalValue op a b else arithValue op a b c

/-- The operations that write Rd (40 R411). -/
def writesRd (op : DpOp) : Bool :=
  match op with
  | .tst => false | .teq => false | .cmp => false | .cmn => false
  | .and => true | .eor => true | .sub => true | .rsb => true | .add => true | .adc => true | .sbc => true | .rsc => true
  | .orr => true | .mov => true | .bic => true | .mvn => true

/-- A register-shift form names R15 in a field that the operation uses (40 R407; log 12). -/
def shiftNamesR15 (op : DpOp) (f : DpForm) (rn rd : Reg) : Bool :=
  match f with
  | .imm _ _ => false
  | .rsi _ _ _ => false
  | .rsr rs _ rm => rs = 15 || rm = 15 || (rn = 15 && !(op = .mov || op = .mvn)) || (rd = 15 && writesRd op)

/-- The form is a PSR restore (40 R412). -/
def restores (op : DpOp) (sf : Bool) (rd : Reg) : Bool := sf && rd = 15 && writesRd op

/-- The 64-bit result of a long multiply, in RdHi and RdLo, with its flags: C and V free bits where S = 1 (41 R452). -/
def LongResult (s t : State) (sf : Bool) (hi lo : Reg) (p : Int) : Prop :=
  reg t hi ++ reg t lo = BitVec.ofInt 64 p ∧ t.pc = s.pc + 4 ∧
    (if sf then
      FlagsAre t ((BitVec.ofInt 64 p).getLsbD 63) (decide (BitVec.ofInt 64 p = 0)) (Config.any1 .mullCarry s.freeIdx)
        (Config.any1 .mullOverflow s.freeIdx)
      else t.cpsr = s.cpsr)

/-! ### Transfers (42) -/

/-- The three kinds of single transfer: pre-indexed, post-indexed, and the T form (42 R500, R506). -/
inductive Indexing where
  | pre (w : Bool)
  | post
  | user
  deriving DecidableEq

/-- Write-back (42 R500). -/
def Indexing.wb (x : Indexing) : Bool :=
  match x with
  | .pre w => w
  | .post => true
  | .user => true

/-- LDR and LDRB in their kinds. -/
def loadInstr (byte : Bool) (x : Indexing) (c : Cond) (u : Bool) (rn rd : Reg) (off : Offset) : Instr :=
  match byte, x with
  | false, .pre w => .ldrPre c u w rn rd off
  | false, .post => .ldrPost c u rn rd off
  | false, .user => .ldrt c u rn rd off
  | true, .pre w => .ldrbPre c u w rn rd off
  | true, .post => .ldrbPost c u rn rd off
  | true, .user => .ldrbt c u rn rd off

/-- STR and STRB in their kinds. -/
def storeInstr (byte : Bool) (x : Indexing) (c : Cond) (u : Bool) (rn rd : Reg) (off : Offset) : Instr :=
  match byte, x with
  | false, .pre w => .strPre c u w rn rd off
  | false, .post => .strPost c u rn rd off
  | false, .user => .strt c u rn rd off
  | true, .pre w => .strbPre c u w rn rd off
  | true, .post => .strbPost c u rn rd off
  | true, .user => .strbt c u rn rd off

/-- The offset of a single transfer (42 R500). -/
def offset2 (s : State) (off : Offset) : Word :=
  match off with
  | .imm v => v.setWidth 32
  | .reg n sh rm => (shiftedBy n sh (s.regArm rm) s.cpsr.c).1

/-- The offset register is R15. -/
def offsetR15 (off : Offset) : Bool :=
  match off with
  | .imm _ => false
  | .reg _ _ rm => rm = 15

/-- The offset of a halfword transfer (42 R520). -/
def halfOffset2 (s : State) (off : HalfOffset) : Word :=
  match off with
  | .imm v => v.setWidth 32
  | .reg rm => s.regArm rm

/-- The offset register is R15. -/
def halfOffsetR15 (off : HalfOffset) : Bool :=
  match off with
  | .imm _ => false
  | .reg rm => rm = 15

/-- `indexed` (42 R500). -/
def indexedOf (s : State) (u : Bool) (rn : Reg) (o : Word) : Word := if u then s.regArm rn + o else s.regArm rn - o

/-- `addr` (42 R500). -/
def addrOf (s : State) (pre u : Bool) (rn : Reg) (o : Word) : Word := if pre then indexedOf s u rn o else s.regArm rn

/-- Pre-indexed or not. -/
def Indexing.isPre (x : Indexing) : Bool :=
  match x with
  | .pre _ => true
  | .post => false
  | .user => false

/-- The aligned word, rotated so that the addressed byte ends in bits 7:0 (42 R502). -/
def rotatedWord (s : State) (a : Word) : Word := (s.memRead a .b4).rotateRight (8 * (a.toNat % 4))

/-- The registers of a list, ascending. -/
def inOrder {n : Nat} (list : BitVec n) : List (Fin n) := (List.finRange n).filter fun i => list.getLsbD i.val

/-- The position of register `i` in the block: how many registers of the list are below it. -/
def rank {n : Nat} (list : BitVec n) (i : Nat) : Nat := ((List.range i).filter fun k => list.getLsbD k).length

/-- The number of registers of the list. -/
def count {n : Nat} (list : BitVec n) : Nat := (inOrder list).length

/-- The first address of a block (42 R530, the table). -/
def firstAddr (p u : Bool) (base : Word) (n : Nat) : Word :=
  match p, u with
  | false, true => base
  | true, true => base + 4
  | false, false => base - BitVec.ofNat 32 (4 * n) + 4
  | true, false => base - BitVec.ofNat 32 (4 * n)

/-- The write-back value of a block (42 R530, the table). -/
def blockEnd (u : Bool) (base : Word) (n : Nat) : Word :=
  if u then base + BitVec.ofNat 32 (4 * n) else base - BitVec.ofNat 32 (4 * n)

/-- Word `k` of a block. -/
def wordAt (s : State) (first : Word) (k : Nat) : Word := s.memRead (first + BitVec.ofNat 32 (4 * k)) .b4

/-- User or System mode: no SPSR (10 R114). -/
def noSpsrMode (m : Mode) : Bool := m = .usr || m = .sys

/-- The SPSR of the current mode restores to a legal mode (10 R112, R116). -/
def legalSpsr (s : State) : Bool :=
  match s.cpsr.mode.exc? with
  | none => false
  | some e => (Mode.ofBits? (s.spsrOf e).m).isSome

/-- `CPSR <- SPSR_e` and the PC aligned by the restored T (10 R116). -/
def Restored (s t : State) (e : Exc) (target : Word) : Prop :=
  t.cpsr.toPsr = s.spsrOf e ∧ t.pc = target &&& (if (s.spsrOf e).t then 0xFFFFFFFE else 0xFFFFFFFC)

/-- `w(i)` for the registers of a list in turn, stored by ascending words from `first` (42 R532). -/
def storedBlock (s : State) (first : Word) (ws : List Word) : State :=
  (ws.zipIdx).foldl (fun u e => u.memWrite (first + BitVec.ofNat 32 (4 * e.2)) .b4 e.1) s

/-! ### Waiting (60 R940 to R944) and the picture processor's events (61 R1002 to R1005) -/

/-- The CPU waits and a step of it stays waiting: in Stop, in Halt or in IntrWait with its wake condition not met; a halted CPU
of neither kind, which no run reaches, has none (log 22). -/
def StaysAsleep (s : State) : Prop :=
  (s.stopped = true ∧ s.params.stopWakeMask &&& s.ic.ie.setWidth 16 &&& s.ic.iff.setWidth 16 = 0) ∨
  (s.halted = true ∧ s.waitKind = .halt ∧ ¬(s.ic.ime = true ∧ s.ic.ie &&& s.ic.iff ≠ 0)) ∨
  (s.halted = true ∧ s.waitKind = .intrWait ∧ s.ic.shadow &&& s.waitMask = 0) ∨
  (s.halted = true ∧ s.waitKind = .none)

/-- From cycle `p`, one of the next `k` cycles is cycle `c` of a period of `n`. -/
def Passes (p k n c : Nat) : Prop := ∃ j, 1 ≤ j ∧ j ≤ k ∧ (p + j) % n = c

/-- Interrupt bit `b` of IF and of SHADOW: set where it was, and where the event happened with its DISPSTAT enable, its IE bit
and IME set (60 R911). -/
def Requested (s t : State) (b : Nat) (enable : Bool) (event : Prop) : Prop :=
  (t.ic.iff.getLsbD b = true ↔
    s.ic.iff.getLsbD b = true ∨ (enable = true ∧ s.ic.ie.getLsbD b = true ∧ s.ic.ime = true ∧ event)) ∧
  (t.ic.shadow.getLsbD b = true ↔
    s.ic.shadow.getLsbD b = true ∨ (enable = true ∧ s.ic.ie.getLsbD b = true ∧ s.ic.ime = true ∧ event))

/-! ### System calls (47) -/

/-- `i` is an SWI of call number `n` and length `len` whose condition passes (43 R611, 46 R751). -/
def IsCall (i : Instr) (n : Byte) (len : Word) (s : State) : Prop :=
  (∃ c low, i = .swi c (n ++ (low : BitVec 16)) ∧ condPass c s.cpsr = true ∧ len = 4) ∨ (i = .tSwi n ∧ len = 2)

/-- The call numbers that have a routine (47 R801). -/
def hasRoutine (n : Byte) : Bool :=
  n.toNat ≤ 0x07 || n = 0x0B || n = 0x0C || n = 0x0D || n = 0x11

/-- The registers a routine writes (47 R801, R803); SoftReset apart. -/
def callOutputs (n : Byte) : List GReg :=
  if n = 0x06 || n = 0x07 then [.low 0, .low 1, .low 3] else if n = 0x0D then [.low 0] else []

/-- What Div leaves for a numerator and a denominator (47 R816, R825). -/
def DivLeaves (t : State) (num den : Int) : Prop :=
  (den = 0 → t.arg 0 = (if num < 0 then 0xFFFFFFFF else 1) ∧ t.arg 1 = BitVec.ofInt 32 num ∧ t.arg 3 = 1) ∧
  (num = -2147483648 ∧ den = -1 → t.arg 0 = 0x80000000 ∧ t.arg 1 = 0 ∧ t.arg 3 = 0x80000000) ∧
  (den ≠ 0 → ¬(num = -2147483648 ∧ den = -1) →
    num = den * (t.arg 0).toInt + (t.arg 1).toInt ∧ (t.arg 1).toInt.natAbs < den.natAbs ∧
      ((t.arg 1).toInt ≠ 0 → ((t.arg 1).toInt < 0 ↔ num < 0)) ∧ t.arg 3 = BitVec.ofNat 32 (t.arg 0).toInt.natAbs)

/-- The units of a copy or fill, one after the other (47 R818). -/
def movedUnits (fill : Bool) (n : Nat) (w : Width) (src dst : Word) (s : State) : State :=
  (List.range n).foldl
    (fun u i =>
      u.memWrite (dst + BitVec.ofNat 32 (i * w.bytes)) w
        (if fill then s.memRead src w else u.memRead (src + BitVec.ofNat 32 (i * w.bytes)) w))
    s

/-! ### Memory -/

/-- Two addresses lead to one byte: mirrors of each other (20 R204), or both in a cartridge collaborator other than the
reference one, whose state the model does not know (20 R214; log 5). -/
def SamePlace (s : State) (a b : Word) : Prop :=
  s.place a = s.place b ∨ ∃ x y, s.place a = .external x ∧ s.place b = .external y

/-- The bytes of an access, at the naturally aligned address (20 R211). -/
def accessBytes (a : Word) (w : Width) : List Word :=
  match w with
  | .b1 => [a]
  | .b2 => [a &&& 0xFFFFFFFE, (a &&& 0xFFFFFFFE) + 1]
  | .b4 => [a &&& 0xFFFFFFFC, (a &&& 0xFFFFFFFC) + 1, (a &&& 0xFFFFFFFC) + 2, (a &&& 0xFFFFFFFC) + 3]

/-- The bytes of a block of words. -/
def blockBytesAt (first : Word) (n : Nat) : List Word :=
  (List.range n).flatMap fun k => accessBytes (first + BitVec.ofNat 32 (4 * k)) .b4

/-- The value an intercepted register has after a halfword `v` is written over `old` (10 R131, R141 to R145). -/
def regAfterWrite (r : DevReg) (old v : Half) : Half :=
  match r with
  | .dispcnt => v
  | .dispstat => (v &&& 0xFF38) ||| (old &&& 0x0007)
  | .vcount => old
  | .bgcnt _ => v
  | .bghofs _ => v &&& 0x01FF
  | .bgvofs _ => v &&& 0x01FF
  | .ie => v &&& 0x3FFF
  | .iff => old &&& ~~~v
  | .ime => v &&& 0x0001
  | .shadow => v

/-- The value a byte write to an intercepted register makes: the byte in its lane, which is lane 1 at the odd address, and the
current read value in the other lane, 0 for IF (20 R233). -/
def byteWriteValue (r : DevReg) (old : Half) (odd : Bool) (b : Byte) : Half :=
  let other := if r = .iff then 0 else old
  if odd then b ++ other.setWidth 8 else (other &&& 0xFF00) ||| b.setWidth 16

/-! ### What each instruction may change -/

/-- The condition an instruction is executed under; the Thumb instructions, the conditional branch apart, have none
(30 R305). -/
def condOf (i : Instr) : Option Cond :=
  match i with
  | .undMulSwap w | .undHalfword w | .undPsr w | .undMsrImm w | .und011 w | .undCopTransfer w | .undCopOp w =>
    some (condOfBits (w.extractLsb' 28 4))
  | .mul c .. | .mla c .. | .umull c .. | .umlal c .. | .smull c .. | .smlal c .. | .swp c .. | .swpb c .. | .ldrh c ..
  | .ldrsb c .. | .ldrsh c .. | .strh c .. | .mrs c .. | .msrReg c .. | .bx c .. | .msrImm c .. | .andImm c ..
  | .andRsi c .. | .andRsr c .. | .eorImm c .. | .eorRsi c .. | .eorRsr c .. | .subImm c .. | .subRsi c .. | .subRsr c ..
  | .rsbImm c .. | .rsbRsi c .. | .rsbRsr c .. | .addImm c .. | .addRsi c .. | .addRsr c .. | .adcImm c .. | .adcRsi c ..
  | .adcRsr c .. | .sbcImm c .. | .sbcRsi c .. | .sbcRsr c .. | .rscImm c .. | .rscRsi c .. | .rscRsr c .. | .tstImm c ..
  | .tstRsi c .. | .tstRsr c .. | .teqImm c .. | .teqRsi c .. | .teqRsr c .. | .cmpImm c .. | .cmpRsi c .. | .cmpRsr c ..
  | .cmnImm c .. | .cmnRsi c .. | .cmnRsr c .. | .orrImm c .. | .orrRsi c .. | .orrRsr c .. | .movImm c .. | .movRsi c ..
  | .movRsr c .. | .bicImm c .. | .bicRsi c .. | .bicRsr c .. | .mvnImm c .. | .mvnRsi c .. | .mvnRsr c .. | .ldrPre c ..
  | .ldrPost c .. | .ldrt c .. | .strPre c .. | .strPost c .. | .strt c .. | .ldrbPre c .. | .ldrbPost c .. | .ldrbt c ..
  | .strbPre c .. | .strbPost c .. | .strbt c .. | .ldm c .. | .stm c .. | .b c .. | .bl c .. | .swi c .. => some c
  | _ => none

/-- The condition passes, or the instruction has none. -/
def passes (i : Instr) (s : State) : Bool :=
  match condOf i with
  | none => true
  | some c => condPass c s.cpsr

/-- SWI, in either state. -/
def isCall (i : Instr) : Bool :=
  match i with
  | .swi .. | .tSwi .. => true
  | _ => false

/-- The fourteen rows of decode anomalies (30 R320). -/
def isAnomaly (i : Instr) : Bool :=
  match i with
  | .undMulSwap .. | .undHalfword .. | .undPsr .. | .undMsrImm .. | .und011 .. | .undCopTransfer .. | .undCopOp ..
  | .tUndB1 .. | .tUndB2 .. | .tUndB6 .. | .tUndB8 .. | .tUndBE .. | .tUndDE .. | .tUndE8 .. => true
  | _ => false

/-- The general registers that numbers name in the current mode; R15 is none of them. -/
def named (s : State) (ns : List Reg) : List GReg :=
  ns.filterMap fun n =>
    match bank s.cpsr.mode n with
    | .gen g => some g
    | .pc => none

/-- The registers of the user bank that a list names (10 R104). -/
def namedUser (ns : List Reg) : List GReg :=
  ns.filterMap fun n =>
    match bank .usr n with
    | .gen g => some g
    | .pc => none

/-- The general registers an instruction other than SWI may write: its destinations, its written-back base, its link or
stack register. -/
def written (i : Instr) (s : State) : List GReg :=
  match i with
  | .mul _ _ rd _ _ _ | .mla _ _ rd _ _ _ => named s [rd]
  | .umull _ _ hi lo _ _ | .umlal _ _ hi lo _ _ | .smull _ _ hi lo _ _ | .smlal _ _ hi lo _ _ => named s [hi, lo]
  | .swp _ _ rd _ | .swpb _ _ rd _ | .mrs _ _ rd => named s [rd]
  | .ldrh _ p _ w rn rd _ | .ldrsb _ p _ w rn rd _ | .ldrsh _ p _ w rn rd _ =>
    named s (rd :: if !p || w then [rn] else [])
  | .strh _ p _ w rn _ _ => named s (if !p || w then [rn] else [])
  | .andImm _ _ _ rd _ _ | .eorImm _ _ _ rd _ _ | .subImm _ _ _ rd _ _ | .rsbImm _ _ _ rd _ _ | .addImm _ _ _ rd _ _
  | .adcImm _ _ _ rd _ _ | .sbcImm _ _ _ rd _ _ | .rscImm _ _ _ rd _ _ | .orrImm _ _ _ rd _ _ | .movImm _ _ _ rd _ _
  | .bicImm _ _ _ rd _ _ | .mvnImm _ _ _ rd _ _ => named s [rd]
  | .andRsi _ _ _ rd _ _ _ | .eorRsi _ _ _ rd _ _ _ | .subRsi _ _ _ rd _ _ _ | .rsbRsi _ _ _ rd _ _ _
  | .addRsi _ _ _ rd _ _ _ | .adcRsi _ _ _ rd _ _ _ | .sbcRsi _ _ _ rd _ _ _ | .rscRsi _ _ _ rd _ _ _
  | .orrRsi _ _ _ rd _ _ _ | .movRsi _ _ _ rd _ _ _ | .bicRsi _ _ _ rd _ _ _ | .mvnRsi _ _ _ rd _ _ _ => named s [rd]
  | .andRsr _ _ _ rd _ _ _ | .eorRsr _ _ _ rd _ _ _ | .subRsr _ _ _ rd _ _ _ | .rsbRsr _ _ _ rd _ _ _
  | .addRsr _ _ _ rd _ _ _ | .adcRsr _ _ _ rd _ _ _ | .sbcRsr _ _ _ rd _ _ _ | .rscRsr _ _ _ rd _ _ _
  | .orrRsr _ _ _ rd _ _ _ | .movRsr _ _ _ rd _ _ _ | .bicRsr _ _ _ rd _ _ _ | .mvnRsr _ _ _ rd _ _ _ => named s [rd]
  | .ldrPre _ _ w rn rd _ | .ldrbPre _ _ w rn rd _ => named s (rd :: if w then [rn] else [])
  | .ldrPost _ _ rn rd _ | .ldrt _ _ rn rd _ | .ldrbPost _ _ rn rd _ | .ldrbt _ _ rn rd _ => named s [rd, rn]
  | .strPre _ _ w rn _ _ | .strbPre _ _ w rn _ _ => named s (if w then [rn] else [])
  | .strPost _ _ rn _ _ | .strt _ _ rn _ _ | .strbPost _ _ rn _ _ | .strbt _ _ rn _ _ => named s [rn]
  | .ldm _ _ _ sb w rn list =>
    named s (if w then [rn] else []) ++
      if sb && !list.getLsbD 15 then namedUser (inOrder list) else named s (inOrder list)
  | .stm _ _ _ _ w rn _ => named s (if w then [rn] else [])
  | .bl _ _ => named s [14]
  | .tLslImm _ _ rd | .tLsrImm _ _ rd | .tAsrImm _ _ rd | .tAddReg _ _ rd | .tSubReg _ _ rd | .tAddImm3 _ _ rd
  | .tSubImm3 _ _ rd | .tMovImm rd _ | .tAddImm8 rd _ | .tSubImm8 rd _ | .tAnd _ rd | .tEor _ rd | .tLslReg _ rd
  | .tLsrReg _ rd | .tAsrReg _ rd | .tAdc _ rd | .tSbc _ rd | .tRor _ rd | .tNeg _ rd | .tOrr _ rd | .tMul _ rd
  | .tBic _ rd | .tMvn _ rd | .tAddPc rd _ | .tAddSp rd _ | .tLdrPc rd _ | .tLdrReg _ _ rd | .tLdrbReg _ _ rd
  | .tLdsb _ _ rd | .tLdrhReg _ _ rd | .tLdsh _ _ rd | .tLdrImm _ _ rd | .tLdrbImm _ _ rd | .tLdrhImm _ _ rd
  | .tLdrSp rd _ => [.low rd]
  | .tAddHi _ rd | .tMovHi _ rd => named s [rd]
  | .tAddSpImm _ | .tSubSpImm _ | .tPush _ _ => named s [13]
  | .tPop _ list => named s [13] ++ (inOrder list).map .low
  | .tStmia rb _ => [.low rb]
  | .tLdmia rb list => .low rb :: (inOrder list).map .low
  | .tBlHi _ | .tBlLo _ => named s [14]
  | _ => []

/-- Which bits of the CPSR an instruction other than SWI may change. -/
inductive StatusBits where
  | none | nz | nzc | nzcv | t | any
  deriving DecidableEq

/-- The CPSR bits by instruction (10 R110, R111; 40; 41; 44). A PSR restore and an MSR of the CPSR may change any. -/
def statusBits (i : Instr) : StatusBits :=
  match i with
  | .mul _ sf .. | .mla _ sf .. => if sf then .nzc else .none
  | .umull _ sf .. | .umlal _ sf .. | .smull _ sf .. | .smlal _ sf .. => if sf then .nzcv else .none
  | .andImm _ sf _ rd _ _ | .eorImm _ sf _ rd _ _ | .orrImm _ sf _ rd _ _ | .movImm _ sf _ rd _ _ | .bicImm _ sf _ rd _ _
  | .mvnImm _ sf _ rd _ _ => if sf then (if rd = 15 then .any else .nzc) else .none
  | .andRsi _ sf _ rd _ _ _ | .eorRsi _ sf _ rd _ _ _ | .orrRsi _ sf _ rd _ _ _ | .movRsi _ sf _ rd _ _ _
  | .bicRsi _ sf _ rd _ _ _ | .mvnRsi _ sf _ rd _ _ _ => if sf then (if rd = 15 then .any else .nzc) else .none
  | .andRsr _ sf .. | .eorRsr _ sf .. | .orrRsr _ sf .. | .movRsr _ sf .. | .bicRsr _ sf .. | .mvnRsr _ sf .. =>
    if sf then .nzc else .none
  | .subImm _ sf _ rd _ _ | .rsbImm _ sf _ rd _ _ | .addImm _ sf _ rd _ _ | .adcImm _ sf _ rd _ _ | .sbcImm _ sf _ rd _ _
  | .rscImm _ sf _ rd _ _ => if sf then (if rd = 15 then .any else .nzcv) else .none
  | .subRsi _ sf _ rd _ _ _ | .rsbRsi _ sf _ rd _ _ _ | .addRsi _ sf _ rd _ _ _ | .adcRsi _ sf _ rd _ _ _
  | .sbcRsi _ sf _ rd _ _ _ | .rscRsi _ sf _ rd _ _ _ => if sf then (if rd = 15 then .any else .nzcv) else .none
  | .subRsr _ sf .. | .rsbRsr _ sf .. | .addRsr _ sf .. | .adcRsr _ sf .. | .sbcRsr _ sf .. | .rscRsr _ sf .. =>
    if sf then .nzcv else .none
  | .tstImm .. | .tstRsi .. | .tstRsr .. | .teqImm .. | .teqRsi .. | .teqRsr .. => .nzc
  | .cmpImm .. | .cmpRsi .. | .cmpRsr .. | .cmnImm .. | .cmnRsi .. | .cmnRsr .. => .nzcv
  | .msrReg _ r _ _ | .msrImm _ r _ _ _ => if r then .none else .any
  | .ldm _ _ _ sb _ _ list => if sb && list.getLsbD 15 then .any else .none
  | .bx .. | .tBx .. => .t
  | .tLslImm .. | .tLsrImm .. | .tAsrImm .. | .tLslReg .. | .tLsrReg .. | .tAsrReg .. | .tRor .. | .tMul .. => .nzc
  | .tMovImm .. | .tAnd .. | .tEor .. | .tTst .. | .tOrr .. | .tBic .. | .tMvn .. => .nz
  | .tAddReg .. | .tSubReg .. | .tAddImm3 .. | .tSubImm3 .. | .tCmpImm .. | .tAddImm8 .. | .tSubImm8 .. | .tAdc ..
  | .tSbc .. | .tNeg .. | .tCmpReg .. | .tCmn .. | .tCmpHi .. => .nzcv
  | _ => .none

/-- Every other bit of the CPSR is kept. -/
def StatusKept (b : StatusBits) (s t : State) : Prop :=
  match b with
  | .none => t.cpsr = s.cpsr
  | .nz => t.cpsr = { s.cpsr with n := t.cpsr.n, z := t.cpsr.z }
  | .nzc => t.cpsr = { s.cpsr with n := t.cpsr.n, z := t.cpsr.z, c := t.cpsr.c }
  | .nzcv => t.cpsr = { s.cpsr with n := t.cpsr.n, z := t.cpsr.z, c := t.cpsr.c, v := t.cpsr.v }
  | .t => t.cpsr = { s.cpsr with t := t.cpsr.t }
  | .any => True

/-- MSR with the SPSR selected. -/
def writesSpsr (i : Instr) : Bool :=
  match i with
  | .msrReg _ r _ _ | .msrImm _ r _ _ _ => r
  | _ => false

/-- A PSR restore: data processing with S = 1 and Rd = 15, or LDM with the S bit and R15 in the list (10 R116). -/
def isRestore (i : Instr) : Bool :=
  match i with
  | .ldm .. => statusBits i = .any
  | .msrReg .. | .msrImm .. => false
  | _ => statusBits i = .any

/-- The bytes an instruction other than SWI stores, by the address its rule computes. -/
def storedBytes (i : Instr) (s : State) : List Word :=
  match i with
  | .swp _ rn _ _ => accessBytes (s.regArm rn) .b4
  | .swpb _ rn _ _ => accessBytes (s.regArm rn) .b1
  | .strh _ p u _ rn _ off => accessBytes (addrOf s p u rn (halfOffset2 s off)) .b2
  | .strPre _ u _ rn _ off => accessBytes (addrOf s true u rn (offset2 s off)) .b4
  | .strPost _ u rn _ off | .strt _ u rn _ off => accessBytes (addrOf s false u rn (offset2 s off)) .b4
  | .strbPre _ u _ rn _ off => accessBytes (addrOf s true u rn (offset2 s off)) .b1
  | .strbPost _ u rn _ off | .strbt _ u rn _ off => accessBytes (addrOf s false u rn (offset2 s off)) .b1
  | .stm _ p u _ _ rn list => blockBytesAt (firstAddr p u (s.regArm rn) (count list)) (count list)
  | .tStrReg ro rb _ => accessBytes (s.lo rb + s.lo ro) .b4
  | .tStrhReg ro rb _ => accessBytes (s.lo rb + s.lo ro) .b2
  | .tStrbReg ro rb _ => accessBytes (s.lo rb + s.lo ro) .b1
  | .tStrImm off rb _ => accessBytes (s.lo rb + off.setWidth 32 * 4) .b4
  | .tStrbImm off rb _ => accessBytes (s.lo rb + off.setWidth 32) .b1
  | .tStrhImm off rb _ => accessBytes (s.lo rb + off.setWidth 32 * 2) .b2
  | .tStrSp _ word8 => accessBytes (reg s 13 + word8.setWidth 32 * 4) .b4
  | .tPush r list =>
    blockBytesAt (reg s 13 - BitVec.ofNat 32 (4 * (count list + r.toNat))) (count list + r.toNat)
  | .tStmia rb list => blockBytesAt (s.lo rb) (count list)
  | _ => []

/-- The instruction has a store form. -/
def isStore (i : Instr) : Bool :=
  match i with
  | .swp .. | .swpb .. | .strh .. | .strPre .. | .strPost .. | .strt .. | .strbPre .. | .strbPost .. | .strbt .. | .stm ..
  | .tStrReg .. | .tStrhReg .. | .tStrbReg .. | .tStrImm .. | .tStrbImm .. | .tStrhImm .. | .tStrSp .. | .tPush ..
  | .tStmia .. => true
  | _ => false

/-! ### Where the rules call an instruction UNPREDICTABLE (spec/93 section 1) -/

/-- The tag, where its condition holds. -/
def tagIf (b : Bool) (f : Fault) : List Fault := if b then [f] else []

/-- A PSR restore with no SPSR, or with an illegal mode in it (10 R116). -/
def restoreTags (b : Bool) (s : State) : List Fault :=
  tagIf (b && noSpsrMode s.cpsr.mode) .noSpsrRestore ++
    tagIf (b && !noSpsrMode s.cpsr.mode && !legalSpsr s) .invalidMode

/-- The tags of a register-shift form with the registers it uses (40 R407). -/
def shiftTags (rs : List Reg) : List Fault := tagIf (rs.any fun r => r = 15) .dpRegshiftR15

/-- The tags of an MSR of value `v` (40 R432, R433). -/
def msrTags (r : Bool) (mask : BitVec 4) (v : Word) (s : State) : List Fault :=
  tagIf (r && noSpsrMode s.cpsr.mode) .noSpsr ++
    tagIf (!r && mask.getLsbD 0 && !(s.cpsr.mode = .usr) && v.getLsbD 5 != s.cpsr.t) .msrTChange ++
    tagIf (!r && mask.getLsbD 0 && !(s.cpsr.mode = .usr) && (Mode.ofBits? (v.extractLsb' 0 5)).isNone) .invalidMode

/-- The tags of a single transfer (42 R500, R501, R504, R505). -/
def singleTags (load byte wb : Bool) (rn rd : Reg) (off : Offset) : List Fault :=
  tagIf (offsetR15 off) .ldstRmR15 ++ tagIf (wb && rn = 15) .ldstWbR15 ++ tagIf (load && wb && rn = rd) .ldWbRnEqRd ++
    tagIf (byte && rd = 15) (if load then .ldrbR15 else .strbR15)

/-- The tags of a halfword or signed transfer (42 R520). -/
def halfTags (load half p u w : Bool) (rn rd : Reg) (off : HalfOffset) (s : State) : List Fault :=
  tagIf (!p && w) .hwPostWriteback ++ tagIf (halfOffsetR15 off) .ldstRmR15 ++ tagIf ((!p || w) && rn = 15) .ldstWbR15 ++
    tagIf (rd = 15) .hwR15 ++ tagIf (load && (!p || w) && rn = rd) .ldWbRnEqRd ++
    tagIf (half && (addrOf s p u rn (halfOffset2 s off)).getLsbD 0) .hwMisaligned

/-- The tag of BX to a target (43 R602). -/
def bxTags (target : Word) : List Fault := tagIf (!target.getLsbD 0 && target.getLsbD 1) .bxArmMisaligned

/-- Every tag whose condition an instruction meets in a state, its condition passing (log 11 says which one the model's step
ends in where there are several). -/
def tags (i : Instr) (s : State) : List Fault :=
  match i with
  | .mul _ _ rd _ rs rm => tagIf (rd = 15 || rs = 15 || rm = 15) .mulR15 ++ tagIf (rd = rm) .mulRdEqRm
  | .mla _ _ rd rn rs rm => tagIf (rd = 15 || rn = 15 || rs = 15 || rm = 15) .mulR15 ++ tagIf (rd = rm) .mulRdEqRm
  | .umull _ _ hi lo rs rm | .umlal _ _ hi lo rs rm | .smull _ _ hi lo rs rm | .smlal _ _ hi lo rs rm =>
    tagIf (hi = 15 || lo = 15 || rs = 15 || rm = 15) .mulR15 ++ tagIf (hi = lo || hi = rm || lo = rm) .mullRegOverlap
  | .swp _ rn rd rm | .swpb _ rn rd rm =>
    tagIf (rn = 15 || rd = 15 || rm = 15) .swpR15 ++ tagIf (rn = rm || rn = rd) .swpRnOverlap
  | .ldrh _ p u w rn rd off | .ldrsh _ p u w rn rd off => halfTags true true p u w rn rd off s
  | .ldrsb _ p u w rn rd off => halfTags true false p u w rn rd off s
  | .strh _ p u w rn rd off => halfTags false true p u w rn rd off s
  | .mrs _ r rd => tagIf (rd = 15) .mrsR15 ++ tagIf (r && noSpsrMode s.cpsr.mode) .noSpsr
  | .msrReg _ r mask rm => tagIf (rm = 15) .msrR15 ++ msrTags r mask (s.regArm rm) s
  | .msrImm _ r mask rot imm8 => msrTags r mask ((imm8.setWidth 32).rotateRight (2 * rot.toNat)) s
  | .bx _ rm => bxTags (s.regArm rm)
  | .andImm _ sf _ rd _ _ | .eorImm _ sf _ rd _ _ | .subImm _ sf _ rd _ _ | .rsbImm _ sf _ rd _ _ | .addImm _ sf _ rd _ _
  | .adcImm _ sf _ rd _ _ | .sbcImm _ sf _ rd _ _ | .rscImm _ sf _ rd _ _ | .orrImm _ sf _ rd _ _ | .movImm _ sf _ rd _ _
  | .bicImm _ sf _ rd _ _ | .mvnImm _ sf _ rd _ _ => restoreTags (sf && rd = 15) s
  | .andRsi _ sf _ rd _ _ _ | .eorRsi _ sf _ rd _ _ _ | .subRsi _ sf _ rd _ _ _ | .rsbRsi _ sf _ rd _ _ _
  | .addRsi _ sf _ rd _ _ _ | .adcRsi _ sf _ rd _ _ _ | .sbcRsi _ sf _ rd _ _ _ | .rscRsi _ sf _ rd _ _ _
  | .orrRsi _ sf _ rd _ _ _ | .movRsi _ sf _ rd _ _ _ | .bicRsi _ sf _ rd _ _ _ | .mvnRsi _ sf _ rd _ _ _ =>
    restoreTags (sf && rd = 15) s
  | .andRsr _ _ rn rd rs _ rm | .eorRsr _ _ rn rd rs _ rm | .subRsr _ _ rn rd rs _ rm | .rsbRsr _ _ rn rd rs _ rm
  | .addRsr _ _ rn rd rs _ rm | .adcRsr _ _ rn rd rs _ rm | .sbcRsr _ _ rn rd rs _ rm | .rscRsr _ _ rn rd rs _ rm
  | .orrRsr _ _ rn rd rs _ rm | .bicRsr _ _ rn rd rs _ rm => shiftTags [rn, rd, rs, rm]
  | .movRsr _ _ _ rd rs _ rm | .mvnRsr _ _ _ rd rs _ rm => shiftTags [rd, rs, rm]
  | .tstRsr _ rn _ rs _ rm | .teqRsr _ rn _ rs _ rm | .cmpRsr _ rn _ rs _ rm | .cmnRsr _ rn _ rs _ rm =>
    shiftTags [rn, rs, rm]
  | .ldrPre _ _ w rn rd off => singleTags true false w rn rd off
  | .ldrPost _ _ rn rd off | .ldrt _ _ rn rd off => singleTags true false true rn rd off
  | .ldrbPre _ _ w rn rd off => singleTags true true w rn rd off
  | .ldrbPost _ _ rn rd off | .ldrbt _ _ rn rd off => singleTags true true true rn rd off
  | .strPre _ _ w rn rd off => singleTags false false w rn rd off
  | .strPost _ _ rn rd off | .strt _ _ rn rd off => singleTags false false true rn rd off
  | .strbPre _ _ w rn rd off => singleTags false true w rn rd off
  | .strbPost _ _ rn rd off | .strbt _ _ rn rd off => singleTags false true true rn rd off
  | .ldm _ _ _ sb w rn list =>
    tagIf (list = 0) .ldmStmEmptyList ++ tagIf (rn = 15) .ldmStmRnR15 ++
      tagIf (sb && !list.getLsbD 15 && w) .userBankWriteback ++
      tagIf (sb && !list.getLsbD 15 && noSpsrMode s.cpsr.mode) .userBankInUsrSys ++
      tagIf (w && list.getLsbD rn.val) .ldmWbRnInList ++ restoreTags (sb && list.getLsbD 15) s
  | .stm _ _ _ sb w rn list =>
    tagIf (list = 0) .ldmStmEmptyList ++ tagIf (rn = 15) .ldmStmRnR15 ++ tagIf (sb && w) .userBankWriteback ++
      tagIf (sb && noSpsrMode s.cpsr.mode) .userBankInUsrSys
  | .tMul rs rd => tagIf (rs = rd) .mulRdEqRm
  | .tAddHi rs rd | .tCmpHi rs rd | .tMovHi rs rd => tagIf (rs.val < 8 && rd.val < 8) .thumbHiLoLo
  | .tBx h1 rs _ => tagIf h1 .thumbBxH1 ++ bxTags (s.regThumb rs)
  | .tStrhReg ro rb _ | .tLdrhReg ro rb _ | .tLdsh ro rb _ => tagIf ((s.lo rb + s.lo ro).getLsbD 0) .hwMisaligned
  | .tStrhImm off rb _ | .tLdrhImm off rb _ => tagIf ((s.lo rb + off.setWidth 32 * 2).getLsbD 0) .hwMisaligned
  | .tPush r list | .tPop r list => tagIf (list = 0 && !r) .ldmStmEmptyList
  | .tStmia _ list | .tLdmia _ list => tagIf (list = 0) .ldmStmEmptyList
  | _ => []

/-! ### Thumb results (44) -/

/-- A low register and the flags of an arithmetic operation; CMP and CMN write no register. -/
def ThumbArith (s : State) (op : DpOp) (a b : Word) (rd : LoReg) (t : State) : Prop :=
  (if writesRd op then t.lo rd = arithValue op a b s.cpsr.c else t.regs = s.regs) ∧ t.pc = s.pc + 2 ∧
    ResultFlags t (arithValue op a b s.cpsr.c) (arithC op a b s.cpsr.c) (arithV op a b s.cpsr.c)

/-- A low register, N and Z of a value, C as given and V unchanged. -/
def ThumbLogic (s : State) (v : Word) (c : Bool) (rd : LoReg) (t : State) : Prop :=
  t.lo rd = v ∧ t.pc = s.pc + 2 ∧ ResultFlags t v c s.cpsr.v

/-- A low register gets a value; no flag changes. -/
def ThumbLoads (s : State) (rd : LoReg) (v : Word) (t : State) : Prop :=
  t.lo rd = v ∧ t.pc = s.pc + 2 ∧ t.cpsr = s.cpsr

/-- The stores of `u` are made; no register or flag changes. -/
def ThumbStores (s u t : State) : Prop :=
  SameUnits t u ∧ t.pc = s.pc + 2 ∧ t.regs = s.regs ∧ t.cpsr = s.cpsr

end Sys2Proof.Claims

open Sys2Proof Sys2Proof.Machine Sys2Proof.Claims

/-! ### Reset and state -/

/-- 10 R160, R161. -/
def Obligations.ResetRegistersAndStatus : Prop :=
  (∀ n : Fin 8, State.reset.greg (.low n) = 0) ∧ (∀ (b : Bool) (n : Fin 5), State.reset.greg (.mid b n) = 0) ∧
  State.reset.greg (.sp .usr) = 0x03007F00 ∧ State.reset.greg (.sp .irq) = 0x03007FA0 ∧
  State.reset.greg (.sp .svc) = 0x03007FE0 ∧ State.reset.greg (.sp .fiq) = 0 ∧ State.reset.greg (.sp .abt) = 0 ∧
  State.reset.greg (.sp .und) = 0 ∧ (∀ b : Bank, State.reset.greg (.lr b) = 0) ∧ State.reset.pc = 0x08000000 ∧
  State.reset.cpsr.toWord = 0x0000001F ∧ State.reset.cpsr.mode = .sys ∧
  (∀ e : Exc, (State.reset.spsrOf e).toWord = 0x00000000)

/-- 10 R162 to R165. -/
def Obligations.ResetDevicesAndMemory : Prop :=
  (State.reset.halted = false ∧ State.reset.stopped = false ∧ State.reset.faulted = false ∧
    State.reset.waitKind = .none ∧ State.reset.waitMask = 0 ∧ State.reset.cycleCount = 0 ∧ State.reset.instrCount = 0) ∧
  (State.reset.ic.ie = 0 ∧ State.reset.ic.iff = 0 ∧ State.reset.ic.ime = false ∧ State.reset.ic.shadow = 0) ∧
  (∀ r : DevReg, State.reset.devRead r = 0) ∧
  (State.reset.ppu.line = 0 ∧ State.reset.ppu.lineCycle = 0 ∧ State.reset.ppu.hblankDone = false ∧
    State.reset.ppu.frameReady = false) ∧
  (∀ x y, Frame.pixel State.reset.ppu.fb x y = 0x00000000) ∧
  (∀ a : Word, regionOf a ∈ [Region.ewram, .iwram, .io, .palette, .vram, .oam] → State.reset.read8 a = 0x00) ∧
  (∀ a : Word, regionOf a = .bios →
    State.reset.read8 a = Sparse.get 0 State.reset.params.bios (a.extractLsb' 0 14).toNat)

/-- The invariant holds at reset. -/
def Obligations.ResetStateIsSound : Prop := State.reset.Inv

/-- 10 R103, R104, R105, R117: what each number names in each mode, by its name and by what it shares, and that a write reaches
that register alone. -/
def Obligations.BankedRegistersByMode : Prop :=
  (∀ m, bank m 15 = .pc) ∧
  (∀ m (k : Fin 8), bank m ⟨k.val, by omega⟩ = .gen (.low k)) ∧
  (∀ m (k : Fin 5), bank m ⟨8 + k.val, by omega⟩ = .gen (.mid (decide (m = .fiq)) k)) ∧
  (∀ e : Mode × Bank,
    e ∈ [(.usr, .usr), (.sys, .usr), (.fiq, .fiq), (.irq, .irq), (.svc, .svc), (.abt, .abt), (.und, .und)] →
      bank e.1 13 = .gen (.sp e.2) ∧ bank e.1 14 = .gen (.lr e.2)) ∧
  (∀ m m' (n : Reg), n.val < 8 → bank m n = bank m' n) ∧
  (∀ m m' (n : Reg), 8 ≤ n.val → n.val < 13 → (bank m n = bank m' n ↔ (m = .fiq ↔ m' = .fiq))) ∧
  (∀ m m' (n : Reg), n = 13 ∨ n = 14 →
    (bank m n = bank m' n ↔ m = m' ∨ (m = .usr ∧ m' = .sys) ∨ (m = .sys ∧ m' = .usr))) ∧
  (∀ m m' (n n' : Reg), bank m n = bank m' n' → n = n') ∧
  (∀ (s : State) m m' (n n' : Reg) (v : Word), n ≠ 15 → n' ≠ 15 →
    (s.setRegOf m n v).regOf m' 0 n' = if bank m' n' = bank m n then v else s.regOf m' 0 n') ∧
  (∀ (s : State) (c : Cpsr) (g : GReg), (s.setCpsr c).greg g = s.greg g)

/-! ### Encoding -/

/-- A few words written out from 30 R301, R302, R303 and R307. -/
def Obligations.EncodedWordsDecode : Prop :=
  decode (.arm 0xE0510002) = some (.subRsi .al true 1 0 0 .lsl 2) ∧
  decode (.arm 0xE3110102) = some (.tstImm .al 1 0 1 2) ∧
  decode (.arm 0xE0203291) = some (.mla .al false 0 3 2 1) ∧
  decode (.arm 0xE129F000) = some (.msrReg .al false 0b1001 0) ∧
  decode (.arm 0xE7010102) = some (.strPre .al false false 1 0 (.reg 2 .lsl 2)) ∧
  decode (.arm 0xE1D100B2) = some (.ldrh .al true true false 1 0 (.imm 2)) ∧
  decode (.arm 0xE8FD800F) = some (.ldm .al false true true true 13 0x800F) ∧
  decode (.arm 0xEB00003E) = some (.bl .al 0x00003E) ∧
  decode (.arm 0xE6000010) = some (.und011 0xE6000010) ∧
  decode (.thumb 0x0108) = some (.tLslImm 4 1 0) ∧
  decode (.thumb 0x4580) = some (.tCmpHi 0 8) ∧
  decode (.thumb 0xB503) = some (.tPush true 0x03) ∧
  decode (.thumb 0xD002) = some (.tBcond .eq 2) ∧
  decode (.thumb 0xBE00) = some (.tUndBE 0xBE00)

/-- Decoding what the encoder writes gives the instruction back. -/
def Obligations.DecodeOfEncodeIsIdentity : Prop := ∀ i : Instr, i.wf = true → decode (encode i) = some i

/-- 30 R306, R308, R320: every word decodes, to an instruction of its own set that is well-formed. -/
def Obligations.EveryWordDecodesWellFormed : Prop :=
  (∀ w, ∃ i, decode (.arm w) = some i ∧ i.wf = true ∧ ∃ v, encode i = .arm v) ∧
  (∀ h, ∃ i, decode (.thumb h) = some i ∧ i.wf = true ∧ ∃ v, encode i = .thumb v)

/-! ### The step -/

/-- 60 R904: a step of a CPU that is not faulted, stopped, halted or interrupted runs the instruction its fetched
word decodes to, counts it, and gives its cycles to what follows the step. -/
def Obligations.StepRunsTheDecodedInstruction : Prop :=
  ∀ (s : State) (i : Instr), s.faulted = false → s.stopped = false → s.halted = false →
    (s.pendingInterrupt = none ∨ s.cpsr.i = true) → decode (fetch s) = some i →
    step s =
      match exec i s with
      | .next t => .next (afterStep (instrCost i s) { t with instrCount := t.instrCount + 1 })
      | .fault f => .fault f
      | .refused r => .refused r

/-- 20 R213, R210: the fetched bytes are those at the PC, the lowest address least significant. -/
def Obligations.FetchReadsBytesAtPc : Prop :=
  ∀ s : State, s.pcAligned = true →
    (regionOf s.pc ≠ .unmapped → s.cpsr.t = false →
      fetch s = .arm (s.read8 (s.pc + 3) ++ s.read8 (s.pc + 2) ++ s.read8 (s.pc + 1) ++ s.read8 s.pc)) ∧
    (regionOf s.pc ≠ .unmapped → s.cpsr.t = true → fetch s = .thumb (s.read8 (s.pc + 1) ++ s.read8 s.pc)) ∧
    (regionOf s.pc = .unmapped → s.cpsr.t = false → fetch s = .arm (s.unmappedValue s.pc .b4)) ∧
    (regionOf s.pc = .unmapped → s.cpsr.t = true → fetch s = .thumb ((s.unmappedValue s.pc .b2).setWidth 16))

/-- 60 R900, R903, R940, R941, R944: a faulted CPU has no step; a stopped or halted one waits, all its state kept, and on its
wake condition steps as one that was not. -/
def Obligations.WaitingCpuStaysOrWakes : Prop :=
  ∀ s : State,
    (s.faulted = true → step s = .fault .faultedCpu) ∧
    (s.faulted = false → s.stopped = true → s.params.stopWakeMask &&& s.ic.ie.setWidth 16 &&& s.ic.iff.setWidth 16 = 0 →
      cpuStep s = .next (s, 1 + s.params.haltExtra)) ∧
    (s.faulted = false → s.stopped = true → s.params.stopWakeMask &&& s.ic.ie.setWidth 16 &&& s.ic.iff.setWidth 16 ≠ 0 →
      cpuStep s = cpuStep { s with stopped := false }) ∧
    (s.faulted = false → s.stopped = false → s.halted = true → s.waitKind = .halt →
      ¬(s.ic.ime = true ∧ s.ic.ie &&& s.ic.iff ≠ 0) → cpuStep s = .next (s, 1 + s.params.haltExtra)) ∧
    (s.faulted = false → s.stopped = false → s.halted = true → s.waitKind = .halt → s.ic.ime = true →
      s.ic.ie &&& s.ic.iff ≠ 0 → cpuStep s = cpuStep { s with halted := false, waitKind := .none }) ∧
    (s.faulted = false → s.stopped = false → s.halted = true → s.waitKind = .intrWait →
      s.ic.shadow &&& s.waitMask = 0 → cpuStep s = .next (s, 1 + s.params.haltExtra)) ∧
    (s.faulted = false → s.stopped = false → s.halted = true → s.waitKind = .intrWait →
      s.ic.shadow &&& s.waitMask ≠ 0 →
      cpuStep s = cpuStep { s with
        ic := { s.ic with shadow := s.ic.shadow &&& ~~~s.waitMask }
        halted := false
        waitKind := .none })

/-- 60 R901, R912, R920: with IME set, a bit set in IE AND IF and I clear, the step is the IRQ entry. -/
def Obligations.PendingIrqIsTaken : Prop :=
  ∀ (s : State) (b : Fin 14), s.faulted = false → s.stopped = false → s.halted = false → s.ic.ime = true →
    s.ic.ie.getLsbD b = true → s.ic.iff.getLsbD b = true → s.cpsr.i = false →
    ∃ u, cpuStep s = .next (u, 1 + s.params.irqExtra) ∧
      u.spsrOf .irq = s.cpsr.toPsr ∧ (∀ e, e ≠ Exc.irq → u.spsrOf e = s.spsrOf e) ∧
      u.cpsr = { s.cpsr with mode := .irq, t := false, i := true } ∧
      u.greg (.lr .irq) = s.pc + 4 ∧ (∀ g, g ≠ GReg.lr .irq → u.greg g = s.greg g) ∧ u.pc = 0x00000018 ∧
      SameUnits u s ∧ SameHost s u ∧ SameWait s u ∧ u.log = s.log

/-- 60 R904, R942, 10 R123: after every step the cycle count has grown by the cycles the step returned, at least one, and the
instruction count by one exactly where an instruction ran: not where the CPU stays waiting, not where an IRQ is entered, and
always else, a CPU that wakes in the step included. That a halted CPU of neither wait kind stays waiting is the model's (log 22). -/
def Obligations.StepCountsCyclesAndInstructions : Prop :=
  ∀ (s : State) (r : State × Nat), cpuStep s = .next r →
    1 ≤ r.2 ∧
    (∃ t, step s = .next t ∧ t.cycleCount = s.cycleCount + BitVec.ofNat 64 r.2) ∧
    (∀ t, step s = .next t →
      (StaysAsleep s → t.instrCount = s.instrCount) ∧
      (¬StaysAsleep s → s.pendingInterrupt ≠ none ∧ s.cpsr.i = false → t.instrCount = s.instrCount) ∧
      (¬StaysAsleep s → s.pendingInterrupt = none ∨ s.cpsr.i = true → t.instrCount = s.instrCount + 1))

/-- 60 R921: SUBS PC, R14, #4 right after an IRQ entry resumes the interrupted stream in its state and mode, with its I
bit; R14_irq and SPSR_irq apart, every register is as before the entry. -/
def Obligations.IrqHandlerReturnResumes : Prop :=
  ∀ s : State, s.pcAligned = true →
    Completes (exec (.subImm .al true 14 15 0 4) s.irqEntry) fun t =>
      t.pc = s.pc ∧ t.cpsr = s.cpsr ∧ (∀ g, g ≠ GReg.lr .irq → t.greg g = s.greg g) ∧
        (∀ e, e ≠ Exc.irq → t.spsrOf e = s.spsrOf e) ∧ SameUnits t s

/-- 43 R612, 60 R925, R926: with no BiosHLE, an SWI of either set enters Supervisor mode at 0x08, and MOVS PC, R14 there
goes on after it. -/
def Obligations.SwiExceptionEntryAndReturn : Prop :=
  ∀ (i : Instr) (n : Byte) (len : Word) (s : State), s.params.hleInstalled = false → IsCall i n len s →
    (i = .tSwi n ↔ s.cpsr.t = true) →
    Completes (exec i s) fun t =>
      t.greg (.lr .svc) = s.pc + len ∧ t.spsrOf .svc = s.cpsr.toPsr ∧
        t.cpsr = { s.cpsr with mode := .svc, t := false, i := true } ∧ t.pc = 0x00000008 ∧
        (∀ g, g ≠ GReg.lr .svc → t.greg g = s.greg g) ∧ (∀ e, e ≠ Exc.svc → t.spsrOf e = s.spsrOf e) ∧
        SameUnits t s ∧ SameHost s t ∧ SameWait s t ∧ t.log = s.log ∧ t.freeIdx = s.freeIdx ∧
        (s.pcAligned = true →
          Completes (exec (.movRsi .al true 0 15 0 .lsl 14) t) fun u => u.pc = s.pc + len ∧ u.cpsr = s.cpsr)

/-! ### Invariants and whole-machine rules -/

/-- 10 R108: a step keeps the PC a multiple of 4 in ARM state and of 2 in Thumb state. -/
def Obligations.StepKeepsPcAligned : Prop :=
  ∀ s t : State, s.pcAligned = true → step s = .next t → t.pcAligned = true

/-- A step keeps memory in its canonical form, with no flat byte behind an intercepted register (20 R232). -/
def Obligations.StepKeepsMemoryCanonical : Prop :=
  ∀ s t : State, Memory.wf s.mem = true → Memory.unshadowed s.mem = true → step s = .next t →
    Memory.wf t.mem = true ∧ Memory.unshadowed t.mem = true

/-- A step keeps the picture processor's counters in range and its flags agreeing with them, the framebuffer in its form,
and the CPU halted exactly where a call has said what it waits for. -/
def Obligations.StepKeepsPpuAndWaitSound : Prop :=
  ∀ s t : State, s.ppu.countersOk = true → Frame.wf s.ppu.fb = true → s.waitOk = true → step s = .next t →
    t.ppu.countersOk = true ∧ Frame.wf t.ppu.fb = true ∧ t.waitOk = true

/-- 60 R950, R952: no instruction but an SWI leaves User mode or changes I, F or an SPSR there. -/
def Obligations.UserModeIsLeftOnlyBySwi : Prop :=
  ∀ (i : Instr) (s t : State), s.cpsr.mode = .usr → isCall i = false → exec i s = .next t →
    t.cpsr.mode = .usr ∧ t.cpsr.i = s.cpsr.i ∧ t.cpsr.f = s.cpsr.f ∧ t.spsr = s.spsr

/-- 10 R111: an instruction that changes T is a BX, a PSR restore or an SWI. -/
def Obligations.ThumbBitWriters : Prop :=
  ∀ (i : Instr) (s t : State), exec i s = .next t → t.cpsr.t ≠ s.cpsr.t →
    (∃ c rm, i = .bx c rm) ∨ (∃ h rs rd, i = .tBx h rs rd) ∨ isRestore i = true ∨ isCall i = true

/-- 10 R115, 47 R810: an instruction that changes an SPSR is an MSR that selects the current one, or an SWI. -/
def Obligations.SavedStatusWriters : Prop :=
  ∀ (i : Instr) (s t : State) (e : Exc), exec i s = .next t → t.spsrOf e ≠ s.spsrOf e →
    (writesSpsr i = true ∧ s.cpsr.mode = e.mode) ∨ (isCall i = true ∧ (e = .svc ∨ e = .irq))

/-- 00 R12, 60 R903 and the restrictions of 40 to 45: an instruction whose condition passes runs where no rule calls it
UNPREDICTABLE, and stops, with a tag of a rule that does, everywhere else; none is refused. Three clauses of `tags` are the
model's: which of several tags a stop has is left open (log 11), an R15 field that a register-shift form ignores does not count
(log 12), and the tag ldst_wb_r15 of R500 applies to LDRH, LDRSB, LDRSH and STRH with a written-back Rn = 15 (log 14). -/
def Obligations.FaultsExactlyWhereUnpredictable : Prop :=
  ∀ (i : Instr) (s : State), passes i s = true →
    (tags i s = [] → ∃ t, exec i s = .next t) ∧ (tags i s ≠ [] → ∃ f, f ∈ tags i s ∧ exec i s = .fault f)

/-- 30 R304: what each condition tests, its code, and where the code stands: in bits 31:28 of every ARM word, in bits 11:8 of
every Thumb conditional branch, where 1111 is SWI. -/
def Obligations.ConditionTable : Prop :=
  ∀ p : Cpsr,
    (condPass .eq p = true ↔ p.z = true) ∧ (condPass .ne p = true ↔ p.z = false) ∧
    (condPass .cs p = true ↔ p.c = true) ∧ (condPass .cc p = true ↔ p.c = false) ∧
    (condPass .mi p = true ↔ p.n = true) ∧ (condPass .pl p = true ↔ p.n = false) ∧
    (condPass .vs p = true ↔ p.v = true) ∧ (condPass .vc p = true ↔ p.v = false) ∧
    (condPass .hi p = true ↔ p.c = true ∧ p.z = false) ∧ (condPass .ls p = true ↔ p.c = false ∨ p.z = true) ∧
    (condPass .ge p = true ↔ p.n = p.v) ∧ (condPass .lt p = true ↔ p.n ≠ p.v) ∧
    (condPass .gt p = true ↔ p.z = false ∧ p.n = p.v) ∧ (condPass .le p = true ↔ p.z = true ∨ p.n ≠ p.v) ∧
    condPass .al p = true ∧ condPass .nv p = false ∧
    [condOfBits 0, condOfBits 1, condOfBits 2, condOfBits 3, condOfBits 4, condOfBits 5, condOfBits 6, condOfBits 7,
      condOfBits 8, condOfBits 9, condOfBits 10, condOfBits 11, condOfBits 12, condOfBits 13, condOfBits 14,
      condOfBits 15] =
      [Cond.eq, .ne, .cs, .cc, .mi, .pl, .vs, .vc, .hi, .ls, .ge, .lt, .gt, .le, .al, .nv] ∧
    (∀ (w : Word) (i : Instr), decode (.arm w) = some i → condOf i = some (condOfBits (w.extractLsb' 28 4))) ∧
    (∀ (h : Half) (c : Cond) (off : BitVec 8), decode (.thumb h) = some (.tBcond c off) →
      h.extractLsb' 12 4 = 0xD ∧ (h.extractLsb' 8 4).toNat < 14 ∧ c = condOfBits (h.extractLsb' 8 4) ∧ off = h.extractLsb' 0 8) ∧
    (∀ k : BitVec 8,
      (∀ b : BitVec 4, b.toNat < 14 → decode (.thumb (0xD#4 ++ b ++ k)) = some (.tBcond (condOfBits b) k)) ∧
      decode (.thumb (0xDF#8 ++ k)) = some (.tSwi k))

/-- 30 R305, 43 R621: an ARM instruction whose condition fails only advances the PC, and costs `CYC`. -/
def Obligations.FailedConditionOnlyAdvancesPc : Prop :=
  ∀ (i : Instr) (s : State) (c : Cond), condOf i = some c → condPass c s.cpsr = false →
    exec i s = .next { s with pc := s.pc + 4 } ∧ instrCost i s = cycOf i s

/-! ### ARM data processing -/

/-- 40 R401 to R404: the barrel shifter, as arithmetic on integers and as a rotation of bits. -/
def Obligations.BarrelShifterIsExact : Prop :=
  ∀ (m : Word) (n : Nat) (cin : Bool),
    (∀ sh, shiftByAmount sh m 0 cin = (m, cin)) ∧
    (1 ≤ n →
      (shiftByAmount .lsl m n cin).1.toNat = m.toNat * 2 ^ n % 2 ^ 32 ∧
      (shiftByAmount .lsl m n cin).2 = (m.toNat * 2 ^ n).testBit 32 ∧
      (shiftByAmount .lsr m n cin).1.toNat = m.toNat / 2 ^ n ∧
      (shiftByAmount .lsr m n cin).2 = m.toNat.testBit (n - 1) ∧
      (shiftByAmount .asr m n cin).1.toInt = m.toInt / 2 ^ n ∧
      (shiftByAmount .asr m n cin).2 = decide (m.toInt / 2 ^ (n - 1) % 2 = 1) ∧
      (∀ i, i < 32 → (shiftByAmount .ror m n cin).1.getLsbD i = m.getLsbD ((i + n) % 32)) ∧
      (shiftByAmount .ror m n cin).2 = m.getLsbD ((n + 31) % 32)) ∧
    (∀ i, i < 31 → (rrxOut m cin).1.getLsbD i = m.getLsbD (i + 1)) ∧ (rrxOut m cin).1.getLsbD 31 = cin ∧
    (rrxOut m cin).2 = m.getLsbD 0

/-- 40 R409, R413, R414, R421, R422, R425 to R428. That a register-shift form which names R15 only in a field its operation
ignores (Rn of MOV and MVN, Rd of TST and TEQ) runs is the model's (log 12): 40 R407 names Rd, Rn, Rm and Rs alike. -/
def Obligations.LogicalDataProcessing : Prop :=
  ∀ (op : DpOp) (f : DpForm) (c : Cond) (sf : Bool) (rn rd : Reg) (s : State),
    isLogical op = true → condPass c s.cpsr = true → shiftNamesR15 op f rn rd = false → restores op sf rd = false →
    Completes (exec (dpInstr op f c sf rn rd) s) fun t =>
      (if writesRd op then ArmWrites s t rd (logicalValue op (s.regArm rn) (operand2 s f).1)
        else t.regs = s.regs ∧ t.pc = s.pc + 4) ∧
      (if sf || !writesRd op then
        ResultFlags t (logicalValue op (s.regArm rn) (operand2 s f).1) (operand2 s f).2 s.cpsr.v
        else t.cpsr = s.cpsr) ∧
      t.cpsr.t = s.cpsr.t ∧ t.cpsr.mode = s.cpsr.mode

/-- 40 R410, R415 to R420, R423, R424, with 00 R13. That a register-shift CMP or CMN which names R15 only in its ignored Rd
field runs is the model's (log 12): 40 R407 names Rd, Rn, Rm and Rs alike. -/
def Obligations.ArithmeticDataProcessing : Prop :=
  ∀ (op : DpOp) (f : DpForm) (c : Cond) (sf : Bool) (rn rd : Reg) (s : State),
    isLogical op = false → condPass c s.cpsr = true → shiftNamesR15 op f rn rd = false → restores op sf rd = false →
    Completes (exec (dpInstr op f c sf rn rd) s) fun t =>
      (if writesRd op then ArmWrites s t rd (arithValue op (s.regArm rn) (operand2 s f).1 s.cpsr.c)
        else t.regs = s.regs ∧ t.pc = s.pc + 4) ∧
      (if sf || !writesRd op then
        ResultFlags t (arithValue op (s.regArm rn) (operand2 s f).1 s.cpsr.c)
          (arithC op (s.regArm rn) (operand2 s f).1 s.cpsr.c) (arithV op (s.regArm rn) (operand2 s f).1 s.cpsr.c)
        else t.cpsr = s.cpsr) ∧
      t.cpsr.t = s.cpsr.t ∧ t.cpsr.mode = s.cpsr.mode

/-- 40 R412, 10 R116. -/
def Obligations.DataProcessingPsrRestore : Prop :=
  ∀ (op : DpOp) (f : DpForm) (c : Cond) (rn : Reg) (s : State),
    writesRd op = true → condPass c s.cpsr = true → shiftNamesR15 op f rn 15 = false →
    (noSpsrMode s.cpsr.mode = true → exec (dpInstr op f c true rn 15) s = .fault .noSpsrRestore) ∧
    (∀ e, s.cpsr.mode.exc? = some e →
      (Mode.ofBits? (s.spsrOf e).m = none → exec (dpInstr op f c true rn 15) s = .fault .invalidMode) ∧
      (∀ m, Mode.ofBits? (s.spsrOf e).m = some m →
        Completes (exec (dpInstr op f c true rn 15) s) fun t =>
          Restored s t e (dpValue op (s.regArm rn) (operand2 s f).1 s.cpsr.c) ∧ t.regs = s.regs))

/-! ### PSR transfer -/

/-- 40 R431. -/
def Obligations.MrsReadsStatus : Prop :=
  ∀ (c : Cond) (rd : Reg) (s : State), condPass c s.cpsr = true → rd ≠ 15 →
    (Completes (exec (.mrs c false rd) s) fun t =>
      reg t rd = s.cpsr.toWord ∧ t.pc = s.pc + 4 ∧ t.cpsr = s.cpsr) ∧
    (∀ e, s.cpsr.mode.exc? = some e →
      Completes (exec (.mrs c true rd) s) fun t =>
        reg t rd = (s.spsrOf e).toWord ∧ t.pc = s.pc + 4 ∧ t.cpsr = s.cpsr) ∧
    (noSpsrMode s.cpsr.mode = true → exec (.mrs c true rd) s = .fault .noSpsr)

/-- 40 R432, R434: MSR to the CPSR, the register and the immediate form, in User mode and out of it; Rm = 15 stops. -/
def Obligations.MsrWritesCpsr : Prop :=
  (∀ (i : Instr) (c : Cond) (mask : BitVec 4) (v : Word) (s : State),
    ((∃ rm, rm ≠ 15 ∧ i = .msrReg c false mask rm ∧ v = reg s rm) ∨
      ∃ rot imm8, i = .msrImm c false mask rot imm8 ∧ v = (imm8.setWidth 32).rotateRight (2 * rot.toNat)) →
    condPass c s.cpsr = true →
    (mask.getLsbD 0 = false ∨ s.cpsr.mode = .usr →
      Completes (exec i s) fun t =>
        (if mask.getLsbD 3 then FlagsAre t (v.getLsbD 31) (v.getLsbD 30) (v.getLsbD 29) (v.getLsbD 28)
          else FlagsAre t s.cpsr.n s.cpsr.z s.cpsr.c s.cpsr.v) ∧
        t.cpsr.i = s.cpsr.i ∧ t.cpsr.f = s.cpsr.f ∧ t.cpsr.t = s.cpsr.t ∧ t.cpsr.mode = s.cpsr.mode ∧
        t.pc = s.pc + 4) ∧
    (mask.getLsbD 0 = true → s.cpsr.mode ≠ .usr → v.getLsbD 5 ≠ s.cpsr.t → exec i s = .fault .msrTChange) ∧
    (mask.getLsbD 0 = true → s.cpsr.mode ≠ .usr → v.getLsbD 5 = s.cpsr.t → Mode.ofBits? (v.extractLsb' 0 5) = none →
      exec i s = .fault .invalidMode) ∧
    (∀ m, mask.getLsbD 0 = true → s.cpsr.mode ≠ .usr → v.getLsbD 5 = s.cpsr.t →
      Mode.ofBits? (v.extractLsb' 0 5) = some m →
      Completes (exec i s) fun t =>
        (if mask.getLsbD 3 then FlagsAre t (v.getLsbD 31) (v.getLsbD 30) (v.getLsbD 29) (v.getLsbD 28)
          else FlagsAre t s.cpsr.n s.cpsr.z s.cpsr.c s.cpsr.v) ∧
        t.cpsr.i = v.getLsbD 7 ∧ t.cpsr.f = v.getLsbD 6 ∧ t.cpsr.t = s.cpsr.t ∧ t.cpsr.mode = m ∧ t.pc = s.pc + 4)) ∧
  (∀ (c : Cond) (mask : BitVec 4) (s : State), condPass c s.cpsr = true →
    exec (.msrReg c false mask 15) s = .fault .msrR15)

/-- 40 R433: MSR to the current SPSR: bytes of any value, and the other SPSRs kept; without an SPSR it stops before it reads its
operand, Rm = 15 included. -/
def Obligations.MsrWritesSpsr : Prop :=
  (∀ (i : Instr) (c : Cond) (mask : BitVec 4) (v : Word) (s : State),
    ((∃ rm, rm ≠ 15 ∧ i = .msrReg c true mask rm ∧ v = reg s rm) ∨
      ∃ rot imm8, i = .msrImm c true mask rot imm8 ∧ v = (imm8.setWidth 32).rotateRight (2 * rot.toNat)) →
    condPass c s.cpsr = true →
    (noSpsrMode s.cpsr.mode = true → exec i s = .fault .noSpsr) ∧
    (∀ e, s.cpsr.mode.exc? = some e →
      Completes (exec i s) fun t =>
        (t.spsrOf e).toWord =
          ((if mask.getLsbD 3 then v else (s.spsrOf e).toWord) &&& 0xF0000000) |||
            ((if mask.getLsbD 0 then v else (s.spsrOf e).toWord) &&& 0x000000FF) ∧
        (∀ e', e' ≠ e → t.spsrOf e' = s.spsrOf e') ∧ t.cpsr = s.cpsr ∧ t.pc = s.pc + 4)) ∧
  (∀ (c : Cond) (mask : BitVec 4) (s : State), condPass c s.cpsr = true →
    exec (.msrReg c true mask 15) s = .fault (if noSpsrMode s.cpsr.mode then .noSpsr else .msrR15))

/-! ### Multiplies -/

/-- 41 R450, R451: the product modulo 2^32; C a free bit where S = 1. That the free bit is `Config.any1` of its tag at the
state's counter is the model's form of `ANY1` (log 9); it holds whatever the counter is. -/
def Obligations.ShortMultiplies : Prop :=
  ∀ (c : Cond) (sf : Bool) (rd rn rs rm : Reg) (s : State), condPass c s.cpsr = true →
    rd ≠ 15 → rs ≠ 15 → rm ≠ 15 → rd ≠ rm →
    (Completes (exec (.mul c sf rd rn rs rm) s) fun t =>
      reg t rd = BitVec.ofNat 32 ((reg s rm).toNat * (reg s rs).toNat) ∧ t.pc = s.pc + 4 ∧
        (if sf then ResultFlags t (reg t rd) (Config.any1 .mulCarry s.freeIdx) s.cpsr.v else t.cpsr = s.cpsr)) ∧
    (rn ≠ 15 →
      Completes (exec (.mla c sf rd rn rs rm) s) fun t =>
        reg t rd = BitVec.ofNat 32 ((reg s rm).toNat * (reg s rs).toNat + (reg s rn).toNat) ∧ t.pc = s.pc + 4 ∧
          (if sf then ResultFlags t (reg t rd) (Config.any1 .mulCarry s.freeIdx) s.cpsr.v else t.cpsr = s.cpsr))

/-- 41 R452 to R455; C and V free bits where S = 1. That they are `Config.any1` of their tags at the state's counter is the
model's form of `ANY1` (log 9). -/
def Obligations.LongMultiplies : Prop :=
  ∀ (c : Cond) (sf : Bool) (hi lo rs rm : Reg) (s : State), condPass c s.cpsr = true →
    hi ≠ 15 → lo ≠ 15 → rs ≠ 15 → rm ≠ 15 → hi ≠ lo → hi ≠ rm → lo ≠ rm →
    (Completes (exec (.umull c sf hi lo rs rm) s) fun t =>
      LongResult s t sf hi lo ((reg s rm).toNat * (reg s rs).toNat)) ∧
    (Completes (exec (.umlal c sf hi lo rs rm) s) fun t =>
      LongResult s t sf hi lo ((reg s rm).toNat * (reg s rs).toNat + (reg s hi ++ reg s lo).toNat)) ∧
    (Completes (exec (.smull c sf hi lo rs rm) s) fun t =>
      LongResult s t sf hi lo ((reg s rm).toInt * (reg s rs).toInt)) ∧
    (Completes (exec (.smlal c sf hi lo rs rm) s) fun t =>
      LongResult s t sf hi lo ((reg s rm).toInt * (reg s rs).toInt + (reg s hi ++ reg s lo).toNat))

/-! ### ARM loads, stores and swaps -/

/-- 42 R500 to R502, R504, R506, R508: LDR and LDRB, pre-indexed, post-indexed and T. -/
def Obligations.ArmSingleLoads : Prop :=
  ∀ (byte : Bool) (x : Indexing) (c : Cond) (u : Bool) (rn rd : Reg) (off : Offset) (s : State),
    condPass c s.cpsr = true → offsetR15 off = false → (x.wb = true → rn ≠ 15 ∧ rn ≠ rd) → (byte = true → rd ≠ 15) →
    Completes (exec (loadInstr byte x c u rn rd off) s) fun t =>
      ArmWrites s t rd
        (if byte then s.memRead (addrOf s x.isPre u rn (offset2 s off)) .b1
          else rotatedWord s (addrOf s x.isPre u rn (offset2 s off))) ∧
      (x.wb = true → reg t rn = indexedOf s u rn (offset2 s off)) ∧ t.cpsr = s.cpsr

/-- 42 R500, R501, R503, R505, R507, R509: STR and STRB; R15 stores pc + 12; the value of a store that writes back
its own source is free. -/
def Obligations.ArmSingleStores : Prop :=
  ∀ (byte : Bool) (x : Indexing) (c : Cond) (u : Bool) (rn rd : Reg) (off : Offset) (s : State),
    condPass c s.cpsr = true → offsetR15 off = false → (x.wb = true → rn ≠ 15) → (byte = true → rd ≠ 15) →
    Completes (exec (storeInstr byte x c u rn rd off) s) fun t =>
      SameUnits t
        (s.memWrite (addrOf s x.isPre u rn (offset2 s off)) (if byte then .b1 else .b4)
          (if x.wb && rn = rd then Config.any32 .stWbRnEqRd s.freeIdx else if rd = 15 then s.pc + 12 else reg s rd)) ∧
      (x.wb = true → reg t rn = indexedOf s u rn (offset2 s off)) ∧ t.pc = s.pc + 4 ∧ t.cpsr = s.cpsr

/-- 42 R520 to R524. -/
def Obligations.ArmHalfwordTransfers : Prop :=
  ∀ (c : Cond) (p u w : Bool) (rn rd : Reg) (off : HalfOffset) (s : State),
    condPass c s.cpsr = true → (p = true ∨ w = false) → halfOffsetR15 off = false → rd ≠ 15 →
    ((!p || w) = true → rn ≠ 15) →
    let a := addrOf s p u rn (halfOffset2 s off)
    let back := fun t : State => (!p || w) = true → reg t rn = indexedOf s u rn (halfOffset2 s off);
    (a.getLsbD 0 = false → ((!p || w) = true → rn ≠ rd) →
      Completes (exec (.ldrh c p u w rn rd off) s) fun t =>
        reg t rd = s.memRead a .b2 ∧ t.pc = s.pc + 4 ∧ t.cpsr = s.cpsr ∧ back t) ∧
    (((!p || w) = true → rn ≠ rd) →
      Completes (exec (.ldrsb c p u w rn rd off) s) fun t =>
        reg t rd = ((s.memRead a .b1).setWidth 8).signExtend 32 ∧ t.pc = s.pc + 4 ∧ t.cpsr = s.cpsr ∧ back t) ∧
    (a.getLsbD 0 = false → ((!p || w) = true → rn ≠ rd) →
      Completes (exec (.ldrsh c p u w rn rd off) s) fun t =>
        reg t rd = ((s.memRead a .b2).setWidth 16).signExtend 32 ∧ t.pc = s.pc + 4 ∧ t.cpsr = s.cpsr ∧ back t) ∧
    (a.getLsbD 0 = false →
      Completes (exec (.strh c p u w rn rd off) s) fun t =>
        SameUnits t
          (s.memWrite a .b2 (if (!p || w) && rn = rd then Config.any32 .stWbRnEqRd s.freeIdx else reg s rd)) ∧
        t.pc = s.pc + 4 ∧ t.cpsr = s.cpsr ∧ back t)

/-- 42 R530, R531, R540, R542: LDM, its plain, user-bank and restore forms. -/
def Obligations.ArmBlockLoads : Prop :=
  ∀ (c : Cond) (p u w : Bool) (rn : Reg) (list : BitVec 16) (s : State),
    condPass c s.cpsr = true → list ≠ 0 → rn ≠ 15 → (w = true → list.getLsbD rn.val = false) →
    let first := firstAddr p u (reg s rn) (count list)
    let target := wordAt s first (rank list 15);
    (Completes (exec (.ldm c p u false w rn list) s) fun t =>
      (∀ i : Reg, i ≠ 15 → list.getLsbD i.val = true → reg t i = wordAt s first (rank list i.val)) ∧
      (w = true → reg t rn = blockEnd u (reg s rn) (count list)) ∧
      t.pc = (if list.getLsbD 15 then target &&& 0xFFFFFFFC else s.pc + 4) ∧ t.cpsr = s.cpsr) ∧
    (w = false → list.getLsbD 15 = false → noSpsrMode s.cpsr.mode = false →
      Completes (exec (.ldm c p u true w rn list) s) fun t =>
        (∀ i : Reg, list.getLsbD i.val = true → t.regOf .usr 0 i = wordAt s first (rank list i.val)) ∧
        t.pc = s.pc + 4 ∧ t.cpsr = s.cpsr) ∧
    (∀ e, s.cpsr.mode.exc? = some e → legalSpsr s = true → list.getLsbD 15 = true →
      Completes (exec (.ldm c p u true w rn list) s) fun t =>
        (∀ i : Reg, i ≠ 15 → list.getLsbD i.val = true →
          t.regOf s.cpsr.mode 0 i = wordAt s first (rank list i.val)) ∧
        (w = true → t.regOf s.cpsr.mode 0 rn = blockEnd u (reg s rn) (count list)) ∧ Restored s t e target)

/-- 42 R530, R532, R541: STM, its plain and user-bank forms; R15 stores pc + 12; a written-back base that is in the list and
not lowest stores a free value. -/
def Obligations.ArmBlockStores : Prop :=
  ∀ (c : Cond) (p u sb w : Bool) (rn : Reg) (list : BitVec 16) (s : State),
    condPass c s.cpsr = true → list ≠ 0 → rn ≠ 15 →
    (sb = true → w = false ∧ noSpsrMode s.cpsr.mode = false) →
    let value := fun i : Reg =>
      if i = rn ∧ w = true ∧ rank list i.val ≠ 0 then Config.any32 .stmWbBaseNotLowest s.freeIdx
      else if i = 15 then s.pc + 12
      else s.regOf (if sb then .usr else s.cpsr.mode) 0 i
    Completes (exec (.stm c p u sb w rn list) s) fun t =>
      SameUnits t (storedBlock s (firstAddr p u (reg s rn) (count list)) ((inOrder list).map value)) ∧
      (w = true → reg t rn = blockEnd u (reg s rn) (count list)) ∧ t.pc = s.pc + 4 ∧ t.cpsr = s.cpsr

/-- 42 R560, R561. -/
def Obligations.ArmSwaps : Prop :=
  ∀ (c : Cond) (rn rd rm : Reg) (s : State), condPass c s.cpsr = true → rn ≠ 15 → rd ≠ 15 → rm ≠ 15 → rn ≠ rm →
    rn ≠ rd →
    (Completes (exec (.swp c rn rd rm) s) fun t =>
      reg t rd = rotatedWord s (reg s rn) ∧ SameUnits t (s.memWrite (reg s rn) .b4 (reg s rm)) ∧ t.pc = s.pc + 4 ∧
        t.cpsr = s.cpsr) ∧
    (Completes (exec (.swpb c rn rd rm) s) fun t =>
      reg t rd = s.memRead (reg s rn) .b1 ∧ SameUnits t (s.memWrite (reg s rn) .b1 (reg s rm)) ∧ t.pc = s.pc + 4 ∧
        t.cpsr = s.cpsr)

/-! ### ARM branches -/

/-- 43 R600 to R602. -/
def Obligations.ArmBranches : Prop :=
  ∀ (c : Cond) (off24 : BitVec 24) (rm : Reg) (s : State), condPass c s.cpsr = true →
    exec (.b c off24) s = .next { s with pc := s.pc + 8 + BitVec.ofInt 32 (4 * off24.toInt) } ∧
    (Completes (exec (.bl c off24) s) fun t =>
      reg t 14 = s.pc + 4 ∧ t.pc = s.pc + 8 + BitVec.ofInt 32 (4 * off24.toInt) ∧ t.cpsr = s.cpsr) ∧
    (let target := if rm = 15 then s.pc + 8 else reg s rm;
      (target.getLsbD 0 = true →
        exec (.bx c rm) s = .next { s with cpsr := { s.cpsr with t := true }, pc := target &&& 0xFFFFFFFE }) ∧
      (target.getLsbD 0 = false → target.getLsbD 1 = true → exec (.bx c rm) s = .fault .bxArmMisaligned) ∧
      (target.getLsbD 0 = false → target.getLsbD 1 = false →
        exec (.bx c rm) s = .next { s with cpsr := { s.cpsr with t := false }, pc := target }))

/-! ### System calls -/

/-- 47 R800, R802, R803, R820: every call but SoftReset goes on after the SWI, changes no status register and only its outputs;
a number without a routine changes nothing else and reports its event; BiosChecksum answers its constant. -/
def Obligations.SystemCallsReturnAndReport : Prop :=
  ∀ (i : Instr) (n : Byte) (len : Word) (s : State), s.params.hleInstalled = true → IsCall i n len s →
    (n ≠ 0 →
      Completes (exec i s) fun t =>
        t.pc = s.pc + len ∧ t.cpsr = s.cpsr ∧ t.spsr = s.spsr ∧ (∀ g, g ∉ callOutputs n → t.greg g = s.greg g) ∧
          SameHost s t) ∧
    (hasRoutine n = false → exec i s = .next { s with log := .unimplementedSyscall n :: s.log, pc := s.pc + len }) ∧
    (n = 0x0D → Completes (exec i s) fun t => t.arg 0 = 0xBAAE187F ∧ SameUnits t s)

/-- 47 R816, R817, R825. -/
def Obligations.DivisionCalls : Prop :=
  ∀ (i : Instr) (len : Word) (s : State), s.params.hleInstalled = true →
    (IsCall i 0x06 len s →
      Completes (exec i s) fun t =>
        DivLeaves t (s.arg 0).toInt (s.arg 1).toInt ∧ (∀ g, g ∉ callOutputs 0x06 → t.greg g = s.greg g) ∧
          t.cpsr = s.cpsr ∧ t.pc = s.pc + len ∧ SameUnits t s) ∧
    (IsCall i 0x07 len s →
      Completes (exec i s) fun t =>
        DivLeaves t (s.arg 1).toInt (s.arg 0).toInt ∧ (∀ g, g ∉ callOutputs 0x07 → t.greg g = s.greg g) ∧
          t.cpsr = s.cpsr ∧ t.pc = s.pc + len ∧ SameUnits t s)

/-- 47 R810, R811: SoftReset and RegisterRamReset. -/
def Obligations.ResetCalls : Prop :=
  ∀ (i : Instr) (len : Word) (s : State), s.params.hleInstalled = true →
    (IsCall i 0x00 len s →
      Completes (exec i s) fun t =>
        t.greg (.sp .svc) = 0x03007FE0 ∧ t.greg (.lr .svc) = 0 ∧ (t.spsrOf .svc).toWord = 0 ∧
        t.greg (.sp .irq) = 0x03007FA0 ∧ t.greg (.lr .irq) = 0 ∧ (t.spsrOf .irq).toWord = 0 ∧
        t.cpsr.toWord = 0x0000001F ∧ t.greg (.sp .usr) = 0x03007F00 ∧ t.greg (.lr .usr) = 0 ∧
        (∀ k : Fin 8, t.greg (.low k) = 0) ∧ (∀ k : Fin 5, t.greg (.mid false k) = 0) ∧
        (∀ k : Fin 5, t.greg (.mid true k) = s.greg (.mid true k)) ∧
        (∀ b : Bank, b ∈ [Bank.fiq, .abt, .und] → t.greg (.sp b) = s.greg (.sp b) ∧ t.greg (.lr b) = s.greg (.lr b)) ∧
        (∀ e : Exc, e ∈ [Exc.fiq, .abt, .und] → t.spsrOf e = s.spsrOf e) ∧
        t.pc = (if s.read8 0x03007FFA = 0 then 0x08000000 else 0x02000000) ∧
        (∀ a : Word, regionOf a = .iwram →
          t.read8 a = if 0x7E00 ≤ (a.extractLsb' 0 15).toNat then 0 else s.read8 a) ∧
        (∀ a : Word, regionOf a ≠ .iwram → t.read8 a = s.read8 a) ∧
        t.ic.shadow = 0 ∧ t.ic.ie = s.ic.ie ∧ t.ic.iff = s.ic.iff ∧ t.ic.ime = s.ic.ime ∧ t.ppu = s.ppu) ∧
    (IsCall i 0x01 len s →
      Completes (exec i s) fun t =>
        (∀ a : Word, regionOf a = .ewram → t.read8 a = if (s.arg 0).getLsbD 0 then 0 else s.read8 a) ∧
        (∀ a : Word, regionOf a = .iwram →
          t.read8 a = if (s.arg 0).getLsbD 1 && (a.extractLsb' 0 15).toNat < 0x7E00 then 0 else s.read8 a) ∧
        (∀ a : Word, regionOf a = .palette → t.read8 a = if (s.arg 0).getLsbD 2 then 0 else s.read8 a) ∧
        (∀ a : Word, regionOf a = .vram → t.read8 a = if (s.arg 0).getLsbD 3 then 0 else s.read8 a) ∧
        (∀ a : Word, regionOf a = .oam → t.read8 a = if (s.arg 0).getLsbD 4 then 0 else s.read8 a) ∧
        (∀ a : Word, regionOf a ∈ [Region.bios, .unmapped, .io, .cartridge] → t.read8 a = s.read8 a) ∧
        t.regs = s.regs ∧ t.cpsr = s.cpsr ∧ t.spsr = s.spsr ∧ t.ic = s.ic ∧ t.ppu = s.ppu ∧ t.pc = s.pc + len)

/-- 47 R812 to R815: Halt, Stop, IntrWait and VBlankIntrWait. -/
def Obligations.WaitCalls : Prop :=
  ∀ (i : Instr) (len : Word) (s : State), s.params.hleInstalled = true →
    (IsCall i 0x02 len s → exec i s = .next { s with halted := true, waitKind := .halt, pc := s.pc + len }) ∧
    (IsCall i 0x03 len s → exec i s = .next { s with stopped := true, pc := s.pc + len }) ∧
    (IsCall i 0x04 len s →
      exec i s = .next { s with
        ic := { s.ic with
          ime := true
          shadow := if s.arg 0 = 0 then s.ic.shadow else s.ic.shadow &&& ~~~((s.arg 1).setWidth 16) }
        halted := true
        waitKind := .intrWait
        waitMask := (s.arg 1).setWidth 16
        pc := s.pc + len }) ∧
    (IsCall i 0x05 len s →
      exec i s = .next { s with
        ic := { s.ic with ime := true, shadow := s.ic.shadow &&& 0xFFFE }
        halted := true
        waitKind := .intrWait
        waitMask := 0x0001
        pc := s.pc + len })

/-- 47 R818, R819: CPUSet and CPUFastSet move the units one after the other; the fast form's count is rounded down to a
multiple of 8. -/
def Obligations.BlockCopyCalls : Prop :=
  ∀ (i : Instr) (len : Word) (s : State), s.params.hleInstalled = true →
    (IsCall i 0x0B len s →
      Completes (exec i s) fun t =>
        SameUnits t (movedUnits ((s.arg 2).getLsbD 24) ((s.arg 2).toNat % 0x200000)
          (if (s.arg 2).getLsbD 26 then .b4 else .b2) (s.arg 0) (s.arg 1) s) ∧ t.regs = s.regs ∧ t.pc = s.pc + len) ∧
    (IsCall i 0x0C len s →
      Completes (exec i s) fun t =>
        SameUnits t (movedUnits ((s.arg 2).getLsbD 24) ((s.arg 2).toNat % 0x200000 / 8 * 8) .b4 (s.arg 0) (s.arg 1) s) ∧
          t.regs = s.regs ∧ t.pc = s.pc + len)

/-- 47 R821, R823: LZ77Uncompress writes nothing where the tag is not 0x10, and nothing outside the bytes the header gives. -/
def Obligations.LzDecoderStaysInBounds : Prop :=
  ∀ (i : Instr) (len : Word) (s : State), s.params.hleInstalled = true → IsCall i 0x11 len s →
    let size := (s.memRead (s.arg 0 + 1) .b1).toNat + 256 * (s.memRead (s.arg 0 + 2) .b1).toNat +
      65536 * (s.memRead (s.arg 0 + 3) .b1).toNat
    Completes (exec i s) fun t =>
      t.pc = s.pc + len ∧ t.regs = s.regs ∧ (s.memRead (s.arg 0) .b1 ≠ 0x10 → SameUnits t s) ∧
        ∀ a : Word, (∀ k : Nat, k < size → ¬SamePlace s a (s.arg 1 + BitVec.ofNat 32 k)) → t.read8 a = s.read8 a

/-- 43 R620, R621, 46 R755: a decode anomaly only advances the PC, reports its event and returns one cycle. -/
def Obligations.DecodeAnomaliesAreNoOps : Prop :=
  (∀ (i : Instr) (w : Word) (s : State),
    i ∈ [.undMulSwap w, .undHalfword w, .undPsr w, .undMsrImm w, .und011 w, .undCopTransfer w, .undCopOp w] →
    passes i s = true →
    exec i s = .next { s with pc := s.pc + 4, log := .anomaly s.pc w :: s.log } ∧ instrCost i s = 1) ∧
  (∀ (i : Instr) (h : Half) (s : State),
    i ∈ [.tUndB1 h, .tUndB2 h, .tUndB6 h, .tUndB8 h, .tUndBE h, .tUndDE h, .tUndE8 h] →
    exec i s = .next { s with pc := s.pc + 2, log := .anomaly s.pc (h.setWidth 32) :: s.log } ∧ instrCost i s = 1)

/-! ### Thumb data processing -/

/-- 44 R650 to R652, R663 to R665, R668. -/
def Obligations.ThumbShifts : Prop :=
  ∀ (off5 : BitVec 5) (rs rd : LoReg) (s : State),
    let logic := fun (r : Word × Bool) => ThumbLogic s r.1 r.2 rd
    Completes (exec (.tLslImm off5 rs rd) s) (logic (shiftByAmount .lsl (s.lo rs) off5.toNat s.cpsr.c)) ∧
    Completes (exec (.tLsrImm off5 rs rd) s)
      (logic (shiftByAmount .lsr (s.lo rs) (if off5 = 0 then 32 else off5.toNat) s.cpsr.c)) ∧
    Completes (exec (.tAsrImm off5 rs rd) s)
      (logic (shiftByAmount .asr (s.lo rs) (if off5 = 0 then 32 else off5.toNat) s.cpsr.c)) ∧
    Completes (exec (.tLslReg rs rd) s) (logic (shiftByAmount .lsl (s.lo rd) ((s.lo rs).toNat % 256) s.cpsr.c)) ∧
    Completes (exec (.tLsrReg rs rd) s) (logic (shiftByAmount .lsr (s.lo rd) ((s.lo rs).toNat % 256) s.cpsr.c)) ∧
    Completes (exec (.tAsrReg rs rd) s) (logic (shiftByAmount .asr (s.lo rd) ((s.lo rs).toNat % 256) s.cpsr.c)) ∧
    Completes (exec (.tRor rs rd) s) (logic (shiftByAmount .ror (s.lo rd) ((s.lo rs).toNat % 256) s.cpsr.c))

/-- 44 R653 to R656, R658 to R660, R666, R667, R670 to R672: the additions and subtractions, with all four flags. -/
def Obligations.ThumbArithmetic : Prop :=
  ∀ (rn rs rd : LoReg) (off3 : BitVec 3) (off8 : BitVec 8) (s : State),
    Completes (exec (.tAddReg rn rs rd) s) (ThumbArith s .add (s.lo rs) (s.lo rn) rd) ∧
    Completes (exec (.tSubReg rn rs rd) s) (ThumbArith s .sub (s.lo rs) (s.lo rn) rd) ∧
    Completes (exec (.tAddImm3 off3 rs rd) s) (ThumbArith s .add (s.lo rs) (off3.setWidth 32) rd) ∧
    Completes (exec (.tSubImm3 off3 rs rd) s) (ThumbArith s .sub (s.lo rs) (off3.setWidth 32) rd) ∧
    Completes (exec (.tCmpImm rd off8) s) (ThumbArith s .cmp (s.lo rd) (off8.setWidth 32) rd) ∧
    Completes (exec (.tAddImm8 rd off8) s) (ThumbArith s .add (s.lo rd) (off8.setWidth 32) rd) ∧
    Completes (exec (.tSubImm8 rd off8) s) (ThumbArith s .sub (s.lo rd) (off8.setWidth 32) rd) ∧
    Completes (exec (.tAdc rs rd) s) (ThumbArith s .adc (s.lo rd) (s.lo rs) rd) ∧
    Completes (exec (.tSbc rs rd) s) (ThumbArith s .sbc (s.lo rd) (s.lo rs) rd) ∧
    Completes (exec (.tNeg rs rd) s) (ThumbArith s .sub 0 (s.lo rs) rd) ∧
    Completes (exec (.tCmpReg rs rd) s) (ThumbArith s .cmp (s.lo rd) (s.lo rs) rd) ∧
    Completes (exec (.tCmn rs rd) s) (ThumbArith s .cmn (s.lo rd) (s.lo rs) rd)

/-- 44 R657, R661, R662, R669, R673 to R676: the logical operations keep C and V; MUL keeps V, its C a free bit. -/
def Obligations.ThumbLogicalAndMultiply : Prop :=
  ∀ (rs rd : LoReg) (off8 : BitVec 8) (s : State),
    Completes (exec (.tMovImm rd off8) s) (ThumbLogic s (off8.setWidth 32) s.cpsr.c rd) ∧
    Completes (exec (.tAnd rs rd) s) (ThumbLogic s (s.lo rd &&& s.lo rs) s.cpsr.c rd) ∧
    Completes (exec (.tEor rs rd) s) (ThumbLogic s (s.lo rd ^^^ s.lo rs) s.cpsr.c rd) ∧
    (Completes (exec (.tTst rs rd) s) fun t =>
      t.regs = s.regs ∧ t.pc = s.pc + 2 ∧ ResultFlags t (s.lo rd &&& s.lo rs) s.cpsr.c s.cpsr.v) ∧
    Completes (exec (.tOrr rs rd) s) (ThumbLogic s (s.lo rd ||| s.lo rs) s.cpsr.c rd) ∧
    Completes (exec (.tBic rs rd) s) (ThumbLogic s (s.lo rd &&& ~~~s.lo rs) s.cpsr.c rd) ∧
    Completes (exec (.tMvn rs rd) s) (ThumbLogic s (~~~s.lo rs) s.cpsr.c rd) ∧
    (rs ≠ rd →
      Completes (exec (.tMul rs rd) s)
        (ThumbLogic s (BitVec.ofNat 32 ((s.lo rs).toNat * (s.lo rd).toNat)) (Config.any1 .mulCarry s.freeIdx) rd)) ∧
    (rs = rd → exec (.tMul rs rd) s = .fault .mulRdEqRm)

/-- 44 R680 to R684: the high-register operations and BX. -/
def Obligations.ThumbHighRegisters : Prop :=
  ∀ (rs rd : Reg) (ig : LoReg) (s : State),
    let val := fun n : Reg => if n = 15 then s.pc + 4 else reg s n;
    (8 ≤ rs.val ∨ 8 ≤ rd.val →
      (Completes (exec (.tAddHi rs rd) s) fun t => ThumbWrites s t rd (val rd + val rs) ∧ t.cpsr = s.cpsr) ∧
      (Completes (exec (.tCmpHi rs rd) s) fun t =>
        t.regs = s.regs ∧ t.pc = s.pc + 2 ∧
          ResultFlags t (arithValue .cmp (val rd) (val rs) s.cpsr.c) (arithC .cmp (val rd) (val rs) s.cpsr.c)
            (arithV .cmp (val rd) (val rs) s.cpsr.c)) ∧
      (Completes (exec (.tMovHi rs rd) s) fun t => ThumbWrites s t rd (val rs) ∧ t.cpsr = s.cpsr)) ∧
    (rs.val < 8 → rd.val < 8 →
      exec (.tAddHi rs rd) s = .fault .thumbHiLoLo ∧ exec (.tCmpHi rs rd) s = .fault .thumbHiLoLo ∧
        exec (.tMovHi rs rd) s = .fault .thumbHiLoLo) ∧
    exec (.tBx true rs ig) s = .fault .thumbBxH1 ∧
    ((val rs).getLsbD 0 = true →
      exec (.tBx false rs ig) s =
        .next { s with cpsr := { s.cpsr with t := true }, pc := val rs &&& 0xFFFFFFFE }) ∧
    ((val rs).getLsbD 0 = false → (val rs).getLsbD 1 = true → exec (.tBx false rs ig) s = .fault .bxArmMisaligned) ∧
    ((val rs).getLsbD 0 = false → (val rs).getLsbD 1 = false →
      exec (.tBx false rs ig) s = .next { s with cpsr := { s.cpsr with t := false }, pc := val rs })

/-- 44 R690 to R693, 46 R750, R752 to R754: addresses from the PC and SP, the stack adjustments, the branches and the two halves of
BL. -/
def Obligations.ThumbAddressesAndBranches : Prop :=
  ∀ (rd : LoReg) (word8 soff8 : BitVec 8) (sword7 : BitVec 7) (off11 : BitVec 11) (c : Cond) (s : State),
    (Completes (exec (.tAddPc rd word8) s)
      (ThumbLoads s rd (((s.pc + 4) &&& 0xFFFFFFFC) + BitVec.ofNat 32 (4 * word8.toNat)))) ∧
    (Completes (exec (.tAddSp rd word8) s) (ThumbLoads s rd (reg s 13 + BitVec.ofNat 32 (4 * word8.toNat)))) ∧
    (Completes (exec (.tAddSpImm sword7) s) fun t =>
      reg t 13 = reg s 13 + BitVec.ofNat 32 (4 * sword7.toNat) ∧ t.pc = s.pc + 2 ∧ t.cpsr = s.cpsr) ∧
    (Completes (exec (.tSubSpImm sword7) s) fun t =>
      reg t 13 = reg s 13 - BitVec.ofNat 32 (4 * sword7.toNat) ∧ t.pc = s.pc + 2 ∧ t.cpsr = s.cpsr) ∧
    (condPass c s.cpsr = true →
      exec (.tBcond c soff8) s = .next { s with pc := s.pc + 4 + BitVec.ofInt 32 (2 * soff8.toInt) }) ∧
    (condPass c s.cpsr = false → exec (.tBcond c soff8) s = .next { s with pc := s.pc + 2 }) ∧
    exec (.tB off11) s = .next { s with pc := s.pc + 4 + BitVec.ofInt 32 (2 * off11.toInt) } ∧
    (Completes (exec (.tBlHi off11) s) fun t =>
      reg t 14 = s.pc + 4 + BitVec.ofInt 32 (4096 * off11.toInt) ∧ t.pc = s.pc + 2 ∧ t.cpsr = s.cpsr) ∧
    (Completes (exec (.tBlLo off11) s) fun t =>
      t.pc = (reg s 14 + BitVec.ofNat 32 (2 * off11.toNat)) &&& 0xFFFFFFFE ∧ reg t 14 = (s.pc + 2) ||| 1 ∧
        t.cpsr = s.cpsr)

/-! ### Thumb loads and stores -/

/-- 45 R700, R703, R704, R706 to R708, R710, R712, R714, R716. -/
def Obligations.ThumbLoadInstructions : Prop :=
  ∀ (ro rb rd : LoReg) (off5 : BitVec 5) (word8 : BitVec 8) (s : State),
    let x := s.lo rb + s.lo ro
    let a := fun k : Nat => s.lo rb + BitVec.ofNat 32 (k * off5.toNat)
    let byte := fun v : Word => (v.setWidth 8).signExtend 32
    Completes (exec (.tLdrPc rd word8) s)
      (ThumbLoads s rd (s.memRead (((s.pc + 4) &&& 0xFFFFFFFC) + BitVec.ofNat 32 (4 * word8.toNat)) .b4)) ∧
    Completes (exec (.tLdrReg ro rb rd) s) (ThumbLoads s rd (rotatedWord s x)) ∧
    Completes (exec (.tLdrbReg ro rb rd) s) (ThumbLoads s rd (s.memRead x .b1)) ∧
    Completes (exec (.tLdsb ro rb rd) s) (ThumbLoads s rd (byte (s.memRead x .b1))) ∧
    (x.getLsbD 0 = false → Completes (exec (.tLdrhReg ro rb rd) s) (ThumbLoads s rd (s.memRead x .b2))) ∧
    (x.getLsbD 0 = false →
      Completes (exec (.tLdsh ro rb rd) s) (ThumbLoads s rd (((s.memRead x .b2).setWidth 16).signExtend 32))) ∧
    Completes (exec (.tLdrImm off5 rb rd) s) (ThumbLoads s rd (rotatedWord s (a 4))) ∧
    Completes (exec (.tLdrbImm off5 rb rd) s) (ThumbLoads s rd (s.memRead (a 1) .b1)) ∧
    ((a 2).getLsbD 0 = false → Completes (exec (.tLdrhImm off5 rb rd) s) (ThumbLoads s rd (s.memRead (a 2) .b2))) ∧
    Completes (exec (.tLdrSp rd word8) s)
      (ThumbLoads s rd (rotatedWord s (reg s 13 + BitVec.ofNat 32 (4 * word8.toNat)))) ∧
    (x.getLsbD 0 = true →
      exec (.tLdrhReg ro rb rd) s = .fault .hwMisaligned ∧ exec (.tLdsh ro rb rd) s = .fault .hwMisaligned) ∧
    ((a 2).getLsbD 0 = true → exec (.tLdrhImm off5 rb rd) s = .fault .hwMisaligned)

/-- 45 R701, R702, R705, R709, R711, R713, R715. -/
def Obligations.ThumbStoreInstructions : Prop :=
  ∀ (ro rb rd : LoReg) (off5 : BitVec 5) (word8 : BitVec 8) (s : State),
    let x := s.lo rb + s.lo ro
    let a := fun k : Nat => s.lo rb + BitVec.ofNat 32 (k * off5.toNat)
    Completes (exec (.tStrReg ro rb rd) s) (ThumbStores s (s.memWrite x .b4 (s.lo rd))) ∧
    Completes (exec (.tStrbReg ro rb rd) s) (ThumbStores s (s.memWrite x .b1 (s.lo rd))) ∧
    (x.getLsbD 0 = false → Completes (exec (.tStrhReg ro rb rd) s) (ThumbStores s (s.memWrite x .b2 (s.lo rd)))) ∧
    Completes (exec (.tStrImm off5 rb rd) s) (ThumbStores s (s.memWrite (a 4) .b4 (s.lo rd))) ∧
    Completes (exec (.tStrbImm off5 rb rd) s) (ThumbStores s (s.memWrite (a 1) .b1 (s.lo rd))) ∧
    ((a 2).getLsbD 0 = false →
      Completes (exec (.tStrhImm off5 rb rd) s) (ThumbStores s (s.memWrite (a 2) .b2 (s.lo rd)))) ∧
    Completes (exec (.tStrSp rd word8) s)
      (ThumbStores s (s.memWrite (reg s 13 + BitVec.ofNat 32 (4 * word8.toNat)) .b4 (s.lo rd))) ∧
    (x.getLsbD 0 = true → exec (.tStrhReg ro rb rd) s = .fault .hwMisaligned) ∧
    ((a 2).getLsbD 0 = true → exec (.tStrhImm off5 rb rd) s = .fault .hwMisaligned)

/-- 45 R720 to R723: PUSH, POP, STMIA and LDMIA. -/
def Obligations.ThumbStackAndBlocks : Prop :=
  ∀ (r : Bool) (rb : LoReg) (list : BitVec 8) (s : State),
    let n := count list + r.toNat
    let stacked := (inOrder list).map s.lo ++ if r then [reg s 14] else []
    let value := fun i : LoReg =>
      if i = rb ∧ rank list i.val ≠ 0 then Config.any32 .stmWbBaseNotLowest s.freeIdx else s.lo i;
    (list ≠ 0 ∨ r = true →
      (Completes (exec (.tPush r list) s) fun t =>
        SameUnits t (storedBlock s (reg s 13 - BitVec.ofNat 32 (4 * n)) stacked) ∧
          reg t 13 = reg s 13 - BitVec.ofNat 32 (4 * n) ∧ t.pc = s.pc + 2 ∧ t.cpsr = s.cpsr) ∧
      (Completes (exec (.tPop r list) s) fun t =>
        (∀ i : LoReg, list.getLsbD i.val = true → t.lo i = wordAt s (reg s 13) (rank list i.val)) ∧
          reg t 13 = reg s 13 + BitVec.ofNat 32 (4 * n) ∧ t.cpsr = s.cpsr ∧
          t.pc = if r then wordAt s (reg s 13) (count list) &&& 0xFFFFFFFE else s.pc + 2)) ∧
    (list ≠ 0 →
      (Completes (exec (.tStmia rb list) s) fun t =>
        SameUnits t (storedBlock s (s.lo rb) ((inOrder list).map value)) ∧
          t.lo rb = s.lo rb + BitVec.ofNat 32 (4 * count list) ∧ t.pc = s.pc + 2 ∧ t.cpsr = s.cpsr) ∧
      (Completes (exec (.tLdmia rb list) s) fun t =>
        (∀ i : LoReg, list.getLsbD i.val = true → t.lo i = wordAt s (s.lo rb) (rank list i.val)) ∧
          (list.getLsbD rb.val = false → t.lo rb = s.lo rb + BitVec.ofNat 32 (4 * count list)) ∧
          t.pc = s.pc + 2 ∧ t.cpsr = s.cpsr)) ∧
    exec (.tPush false 0) s = .fault .ldmStmEmptyList ∧ exec (.tPop false 0) s = .fault .ldmStmEmptyList ∧
    exec (.tStmia rb 0) s = .fault .ldmStmEmptyList ∧ exec (.tLdmia rb 0) s = .fault .ldmStmEmptyList

/-! ### Frames -/

/-- The frame of every instruction that stores nothing, SWI apart: registers but those it writes, CPSR bits but those it sets,
SPSRs but the one an MSR selects, every byte of memory, the devices, the wait state and the counters are unchanged; only an
anomaly reports an event. -/
def Obligations.FrameOfNonStoring : Prop :=
  ∀ (i : Instr) (s t : State), isStore i = false → isCall i = false → exec i s = .next t →
    (∀ g, g ∉ written i s → t.greg g = s.greg g) ∧ StatusKept (statusBits i) s t ∧
    (∀ e, (writesSpsr i && s.cpsr.mode.exc? = some e) = false → t.spsrOf e = s.spsrOf e) ∧
    (∀ a, t.read8 a = s.read8 a) ∧ SameUnits t s ∧ SameHost s t ∧ SameWait s t ∧
    (isAnomaly i = false → t.log = s.log)

/-- The frame of every instruction with a store: the bytes outside those it stores, by the address its rule computes, its
mirrors included, read as before; so do the registers but the ones it writes back or loads, all status, the picture
processor's inner state and the wait state. -/
def Obligations.FrameOfStoring : Prop :=
  ∀ (i : Instr) (s t : State), isStore i = true → exec i s = .next t →
    (∀ a, (∀ b, b ∈ storedBytes i s → ¬SamePlace s a b) → t.read8 a = s.read8 a) ∧
    (∀ g, g ∉ written i s → t.greg g = s.greg g) ∧ t.cpsr = s.cpsr ∧ t.spsr = s.spsr ∧
    (t.ppu.line = s.ppu.line ∧ t.ppu.lineCycle = s.ppu.lineCycle ∧ t.ppu.hblankDone = s.ppu.hblankDone ∧
      t.ppu.frameReady = s.ppu.frameReady ∧ t.ppu.fb = s.ppu.fb) ∧
    t.cart.romLength = s.cart.romLength ∧ SameHost s t ∧ SameWait s t ∧ t.log = s.log

/-! ### Memory -/

/-- 20 R203 to R207, R210, R211: mirrors, the read-only and the unmapped areas, and the composition of accesses from
bytes, the lowest address least significant. -/
def Obligations.MemoryComposition : Prop :=
  ∀ (s : State) (a b : Word) (v : Word) (x : Byte),
    (regionOf a = regionOf b → regionOf a ≠ .unmapped → regionOf a ≠ .cartridge →
      a.toNat % 0x1000000 % (regionOf a).size = b.toNat % 0x1000000 % (regionOf a).size →
      s.read8 a = s.read8 b ∧ s.write8 a x = s.write8 b x) ∧
    (regionOf a = .bios ∨ regionOf a = .unmapped → s.write8 a x = s) ∧
    (∀ key, s.place a = .ram key →
      (s.write8 a x).read8 a = x ∧ ∀ c, s.place c ≠ .ram key → (s.write8 a x).read8 c = s.read8 c) ∧
    ((∀ c, c ∈ accessBytes a .b4 → ∃ key, s.place c = .ram key) →
      (s.memWrite a .b4 v).memRead a .b4 = v ∧
      (∀ k : Nat, k < 4 →
        (s.memWrite a .b4 v).read8 ((a &&& 0xFFFFFFFC) + BitVec.ofNat 32 k) = (v >>> (8 * k)).setWidth 8)) ∧
    ((∀ c, c ∈ accessBytes a .b2 → ∃ key, s.place c = .ram key) →
      (s.memWrite a .b2 v).memRead a .b2 = v &&& 0xFFFF) ∧
    (regionOf a = .unmapped →
      s.memRead a .b1 = s.unmappedValue a .b1 &&& 0x000000FF ∧
      s.memRead a .b2 = s.unmappedValue (a &&& 0xFFFFFFFE) .b2 &&& 0x0000FFFF ∧
      s.memRead a .b4 = s.unmappedValue (a &&& 0xFFFFFFFC) .b4) ∧
    (regionOf a ≠ .unmapped → ∀ w : Width,
      (s.memRead a w).toNat =
        ((accessBytes a w).zipIdx.map fun e => (s.read8 e.1).toNat * 2 ^ (8 * e.2)).sum)

/-- 20 R230 to R233; 10 R131, R141 to R145: a halfword or byte store to an intercepted register follows its write rule, reaches no
flat storage and changes no other intercepted register; a halfword or byte load reads the register or its lane. -/
def Obligations.InterceptedRegisterWrites : Prop :=
  ∀ (s : State) (a v : Word) (r : DevReg), s.place (a &&& 0xFFFFFFFE) = .dev r false →
    let t : State := s.memWrite a .b2 v
    let u : State := s.memWrite a .b1 v
    t.devRead r = regAfterWrite r (s.devRead r) (v.setWidth 16) ∧ t.mem = s.mem ∧
    (∀ r', r' ≠ r → t.devRead r' = s.devRead r') ∧
    u.devRead r = regAfterWrite r (s.devRead r) (byteWriteValue r (s.devRead r) (a.getLsbD 0) (v.setWidth 8)) ∧
    u.mem = s.mem ∧ (∀ r', r' ≠ r → u.devRead r' = s.devRead r') ∧
    s.memRead a .b2 = (s.devRead r).setWidth 32 ∧
    (s.memRead a .b1).toNat = (if a.getLsbD 0 then (s.devRead r).toNat / 256 else (s.devRead r).toNat % 256)

/-! ### The picture processor -/

/-- 61 R1000 to R1005, 60 R911: where `advance` leaves the line, the cycle, the three flags and the three interrupt bits: each
is set exactly where it was or where its event was passed with its enables set. The VCount flag is that of the last line
change, and unchanged before one. A VBlank entry comes within 280,896 cycles. -/
def Obligations.PpuFrameTiming : Prop :=
  ∀ (s : State) (k : Nat), s.ppu.countersOk = true →
    let p := s.ppu.line * 1232 + s.ppu.lineCycle
    let t := advance k s;
    t.ppu.line = (p + k) / 1232 % 228 ∧ t.ppu.lineCycle = (p + k) % 1232 ∧
    t.ppu.dispstat.vblank = decide (160 ≤ t.ppu.line) ∧ t.ppu.dispstat.hblank = decide (960 ≤ t.ppu.lineCycle) ∧
    t.ppu.dispstat.vmatch =
      (if s.ppu.lineCycle + k < 1232 then s.ppu.dispstat.vmatch else decide (t.ppu.line = s.ppu.dispstat.lyc.toNat)) ∧
    Requested s t 0 s.ppu.dispstat.vblankIrq (Passes p k 280896 197120) ∧
    Requested s t 1 s.ppu.dispstat.hblankIrq (Passes p k 1232 960) ∧
    Requested s t 2 s.ppu.dispstat.vcountIrq (Passes p k 280896 (s.ppu.dispstat.lyc.toNat * 1232)) ∧
    (∀ b, 3 ≤ b →
      t.ic.iff.getLsbD b = s.ic.iff.getLsbD b ∧ t.ic.shadow.getLsbD b = s.ic.shadow.getLsbD b) ∧
    (t.ppu.frameReady = true ↔ s.ppu.frameReady = true ∨ Passes p k 280896 197120) ∧
    (280896 ≤ k → Passes p k 280896 197120)

/-- 61 R1010, R1060 to R1063, R1056, R1070: a rendered line shows at each pixel the front-most opaque layer, a sprite before
a background of the same priority and the lower number first among equals, or the backdrop. -/
def Obligations.RenderedLineShowsFrontLayer : Prop :=
  ∀ (s : State) (y : Nat),
    let mode := (s.ppu.dispcnt.extractLsb' 0 3).toNat
    let prio := fun n : Fin 4 => (s.ppu.bg[n].cnt.extractLsb' 0 2).toNat
    let shown := fun (n : Fin 4) (x : Nat) => (bgPixel s mode n x y).colour? s;
    (∀ x y', x < 240 →
      Frame.pixel (renderLine y s).ppu.fb x y' =
        if y' = y then toRGBA (compose s mode x y) else Frame.pixel s.ppu.fb x y') ∧
    (∀ c : BitVec 15,
      (toRGBA c).toNat = c.toNat % 32 * 8 + c.toNat / 32 % 32 * 8 * 2 ^ 8 + c.toNat / 1024 * 8 * 2 ^ 16 + 0xFF * 2 ^ 24) ∧
    (∀ x, 6 ≤ mode → compose s mode x y = pal s 0) ∧
    (∀ x n c, mode < 6 → shown n x = some c →
      (∀ m, m ≠ n → (shown m x).isSome = true → prio n < prio m ∨ (prio n = prio m ∧ n < m)) →
      (∀ o, objPixel s mode x y = some o → prio n < o.1) → compose s mode x y = c) ∧
    (∀ x o, mode < 6 → objPixel s mode x y = some o → (∀ m, (shown m x).isSome = true → o.1 ≤ prio m) →
      o.2.colour? s = some (compose s mode x y)) ∧
    (∀ x, mode < 6 → objPixel s mode x y = none → (∀ m, shown m x = none) → compose s mode x y = pal s 0) ∧
    (∀ x k d, k < 128 → s.ppu.dispcnt.getLsbD 12 = true → candidate s mode x y k = some d →
      (∀ j e, j < 128 → j ≠ k → candidate s mode x y j = some e → d.1 < e.1 ∨ (d.1 = e.1 ∧ k < j)) →
      objPixel s mode x y = some d)
end

