-- ==== Sys2Proof/Laws/Decode.lean ====
section
/-! SUPPORT. Which row decodes a word: it depends on twelve bits of an ARM word, on the top ten bits of a Thumb halfword
(30 R306, R307). -/

namespace Sys2Proof

/-- The first row a word matches. -/
def armRowOf (rows : List ArmRow) (w : Word) : Option ArmRow := rows.find? fun r => w &&& r.mask = r.val

/-- The first row a halfword matches. -/
def thumbRowOf (rows : List ThumbRow) (h : Half) : Option ThumbRow := rows.find? fun r => h &&& r.mask = r.val

/-- The bits the ARM rows test: 27:20 and 7:4. -/
def armKey (w : Word) : Word := w &&& 0x0FF000F0

/-- The bits the Thumb rows test: 15:6. -/
def thumbKey (h : Half) : Half := h &&& 0xFFC0

/-- A word decodes to what the first row it matches builds from it. -/
theorem decode_arm (w : Word) : decode (.arm w) = (armRowOf armRows w).map fun r => r.build w := by
  have h : ∀ rows : List ArmRow, firstArmRow rows w = (armRowOf rows w).map fun r => r.build w := by
    intro rows
    induction rows with
    | nil => rfl
    | cons r rest ih =>
      unfold firstArmRow armRowOf
      by_cases c : w &&& r.mask = r.val
      · simp [c]
      · simpa [c, armRowOf] using ih
  exact h armRows

/-- The same for a Thumb halfword. -/
theorem decode_thumb (w : Half) : decode (.thumb w) = (thumbRowOf thumbRows w).map fun r => r.build w := by
  have h : ∀ rows : List ThumbRow, firstThumbRow rows w = (thumbRowOf rows w).map fun r => r.build w := by
    intro rows
    induction rows with
    | nil => rfl
    | cons r rest ih =>
      unfold firstThumbRow thumbRowOf
      by_cases c : w &&& r.mask = r.val
      · simp [c]
      · simpa [c, thumbRowOf] using ih
  exact h thumbRows

/-- No ARM row tests another bit. -/
theorem armRows_masks : (armRows.all fun r => r.mask &&& 0x0FF000F0 = r.mask) = true := by decide

/-- No Thumb row tests another bit. -/
theorem thumbRows_masks : (thumbRows.all fun r => r.mask &&& 0xFFC0 = r.mask) = true := by decide

/-- The row of an ARM word is that of its key. -/
theorem armRowOf_key (w : Word) : armRowOf armRows w = armRowOf armRows (armKey w) := by
  have h : ∀ rows : List ArmRow, (rows.all fun r => r.mask &&& 0x0FF000F0 = r.mask) = true →
      armRowOf rows w = armRowOf rows (armKey w) := by
    intro rows hr
    induction rows with
    | nil => rfl
    | cons r rest ih =>
      simp only [List.all_cons, Bool.and_eq_true, decide_eq_true_eq] at hr
      have e : armKey w &&& r.mask = w &&& r.mask := by
        unfold armKey
        rw [BitVec.and_assoc, BitVec.and_comm _ r.mask, hr.1]
      have ih' := ih hr.2
      unfold armRowOf at ih' ⊢
      simp only [List.find?_cons, e, ih']
  exact h armRows armRows_masks

/-- The row of a Thumb halfword is that of its key. -/
theorem thumbRowOf_key (w : Half) : thumbRowOf thumbRows w = thumbRowOf thumbRows (thumbKey w) := by
  have h : ∀ rows : List ThumbRow, (rows.all fun r => r.mask &&& 0xFFC0 = r.mask) = true →
      thumbRowOf rows w = thumbRowOf rows (thumbKey w) := by
    intro rows hr
    induction rows with
    | nil => rfl
    | cons r rest ih =>
      simp only [List.all_cons, Bool.and_eq_true, decide_eq_true_eq] at hr
      have e : thumbKey w &&& r.mask = w &&& r.mask := by
        unfold thumbKey
        rw [BitVec.and_assoc, BitVec.and_comm _ r.mask, hr.1]
      have ih' := ih hr.2
      unfold thumbRowOf at ih' ⊢
      simp only [List.find?_cons, e, ih']
  exact h thumbRows thumbRows_masks

/-! ### Fields that are their own codes -/

@[simp] theorem condOfBits_condBits (c : Cond) : condOfBits (condBits c) = c := by cases c <;> rfl

@[simp] theorem shiftOfBits_shiftBits (sh : ShiftType) : shiftOfBits (shiftBits sh) = sh := by cases sh <;> rfl

@[simp] theorem toFin_regBits (r : Reg) : (regBits r).toFin = r := rfl

@[simp] theorem toFin_loRegBits (r : LoReg) : (loRegBits r).toFin = r := rfl

@[simp] theorem getLsbD_flagBit (b : Bool) : (flagBit b).getLsbD 0 = b := by cases b <;> rfl

theorem condBits_condOfBits (b : BitVec 4) : condBits (condOfBits b) = b := by revert b; decide

theorem shiftBits_shiftOfBits (b : BitVec 2) : shiftBits (shiftOfBits b) = b := by revert b; decide

end Sys2Proof
end

