-- ==== Sys2Proof/Laws/State.lean ====
section
/-! SUPPORT. One lemma per field per update of the state. -/

namespace Sys2Proof.Machine

variable (s : State)

/-! `State.setGreg` -/

@[simp] theorem State.setGreg_regs (g : GReg) (v : Word) : (s.setGreg g v).regs = s.regs.set g.idx v := rfl
@[simp] theorem State.setGreg_pc (g : GReg) (v : Word) : (s.setGreg g v).pc = s.pc := rfl
@[simp] theorem State.setGreg_cpsr (g : GReg) (v : Word) : (s.setGreg g v).cpsr = s.cpsr := rfl
@[simp] theorem State.setGreg_spsr (g : GReg) (v : Word) : (s.setGreg g v).spsr = s.spsr := rfl
@[simp] theorem State.setGreg_halted (g : GReg) (v : Word) : (s.setGreg g v).halted = s.halted := rfl
@[simp] theorem State.setGreg_stopped (g : GReg) (v : Word) : (s.setGreg g v).stopped = s.stopped := rfl
@[simp] theorem State.setGreg_faulted (g : GReg) (v : Word) : (s.setGreg g v).faulted = s.faulted := rfl
@[simp] theorem State.setGreg_waitKind (g : GReg) (v : Word) : (s.setGreg g v).waitKind = s.waitKind := rfl
@[simp] theorem State.setGreg_waitMask (g : GReg) (v : Word) : (s.setGreg g v).waitMask = s.waitMask := rfl
@[simp] theorem State.setGreg_cycleCount (g : GReg) (v : Word) : (s.setGreg g v).cycleCount = s.cycleCount := rfl
@[simp] theorem State.setGreg_instrCount (g : GReg) (v : Word) : (s.setGreg g v).instrCount = s.instrCount := rfl
@[simp] theorem State.setGreg_ic (g : GReg) (v : Word) : (s.setGreg g v).ic = s.ic := rfl
@[simp] theorem State.setGreg_ppu (g : GReg) (v : Word) : (s.setGreg g v).ppu = s.ppu := rfl
@[simp] theorem State.setGreg_mem (g : GReg) (v : Word) : (s.setGreg g v).mem = s.mem := rfl
@[simp] theorem State.setGreg_cart (g : GReg) (v : Word) : (s.setGreg g v).cart = s.cart := rfl
@[simp] theorem State.setGreg_params (g : GReg) (v : Word) : (s.setGreg g v).params = s.params := rfl
@[simp] theorem State.setGreg_pendingCycles (g : GReg) (v : Word) : (s.setGreg g v).pendingCycles = s.pendingCycles := rfl
@[simp] theorem State.setGreg_log (g : GReg) (v : Word) : (s.setGreg g v).log = s.log := rfl
@[simp] theorem State.setGreg_freeIdx (g : GReg) (v : Word) : (s.setGreg g v).freeIdx = s.freeIdx := rfl
@[simp] theorem State.setGreg_callback (g : GReg) (v : Word) : (s.setGreg g v).callback = s.callback := rfl
@[simp] theorem State.setGreg_delivered (g : GReg) (v : Word) : (s.setGreg g v).delivered = s.delivered := rfl

/-! `State.setPc` -/

@[simp] theorem State.setPc_regs (v : Word) : (s.setPc v).regs = s.regs := rfl
@[simp] theorem State.setPc_pc (v : Word) : (s.setPc v).pc = v := rfl
@[simp] theorem State.setPc_cpsr (v : Word) : (s.setPc v).cpsr = s.cpsr := rfl
@[simp] theorem State.setPc_spsr (v : Word) : (s.setPc v).spsr = s.spsr := rfl
@[simp] theorem State.setPc_halted (v : Word) : (s.setPc v).halted = s.halted := rfl
@[simp] theorem State.setPc_stopped (v : Word) : (s.setPc v).stopped = s.stopped := rfl
@[simp] theorem State.setPc_faulted (v : Word) : (s.setPc v).faulted = s.faulted := rfl
@[simp] theorem State.setPc_waitKind (v : Word) : (s.setPc v).waitKind = s.waitKind := rfl
@[simp] theorem State.setPc_waitMask (v : Word) : (s.setPc v).waitMask = s.waitMask := rfl
@[simp] theorem State.setPc_cycleCount (v : Word) : (s.setPc v).cycleCount = s.cycleCount := rfl
@[simp] theorem State.setPc_instrCount (v : Word) : (s.setPc v).instrCount = s.instrCount := rfl
@[simp] theorem State.setPc_ic (v : Word) : (s.setPc v).ic = s.ic := rfl
@[simp] theorem State.setPc_ppu (v : Word) : (s.setPc v).ppu = s.ppu := rfl
@[simp] theorem State.setPc_mem (v : Word) : (s.setPc v).mem = s.mem := rfl
@[simp] theorem State.setPc_cart (v : Word) : (s.setPc v).cart = s.cart := rfl
@[simp] theorem State.setPc_params (v : Word) : (s.setPc v).params = s.params := rfl
@[simp] theorem State.setPc_pendingCycles (v : Word) : (s.setPc v).pendingCycles = s.pendingCycles := rfl
@[simp] theorem State.setPc_log (v : Word) : (s.setPc v).log = s.log := rfl
@[simp] theorem State.setPc_freeIdx (v : Word) : (s.setPc v).freeIdx = s.freeIdx := rfl
@[simp] theorem State.setPc_callback (v : Word) : (s.setPc v).callback = s.callback := rfl
@[simp] theorem State.setPc_delivered (v : Word) : (s.setPc v).delivered = s.delivered := rfl

/-! `State.advancePc` -/

@[simp] theorem State.advancePc_regs (v : Word) : (s.advancePc v).regs = s.regs := rfl
@[simp] theorem State.advancePc_pc (v : Word) : (s.advancePc v).pc = s.pc + v := rfl
@[simp] theorem State.advancePc_cpsr (v : Word) : (s.advancePc v).cpsr = s.cpsr := rfl
@[simp] theorem State.advancePc_spsr (v : Word) : (s.advancePc v).spsr = s.spsr := rfl
@[simp] theorem State.advancePc_halted (v : Word) : (s.advancePc v).halted = s.halted := rfl
@[simp] theorem State.advancePc_stopped (v : Word) : (s.advancePc v).stopped = s.stopped := rfl
@[simp] theorem State.advancePc_faulted (v : Word) : (s.advancePc v).faulted = s.faulted := rfl
@[simp] theorem State.advancePc_waitKind (v : Word) : (s.advancePc v).waitKind = s.waitKind := rfl
@[simp] theorem State.advancePc_waitMask (v : Word) : (s.advancePc v).waitMask = s.waitMask := rfl
@[simp] theorem State.advancePc_cycleCount (v : Word) : (s.advancePc v).cycleCount = s.cycleCount := rfl
@[simp] theorem State.advancePc_instrCount (v : Word) : (s.advancePc v).instrCount = s.instrCount := rfl
@[simp] theorem State.advancePc_ic (v : Word) : (s.advancePc v).ic = s.ic := rfl
@[simp] theorem State.advancePc_ppu (v : Word) : (s.advancePc v).ppu = s.ppu := rfl
@[simp] theorem State.advancePc_mem (v : Word) : (s.advancePc v).mem = s.mem := rfl
@[simp] theorem State.advancePc_cart (v : Word) : (s.advancePc v).cart = s.cart := rfl
@[simp] theorem State.advancePc_params (v : Word) : (s.advancePc v).params = s.params := rfl
@[simp] theorem State.advancePc_pendingCycles (v : Word) : (s.advancePc v).pendingCycles = s.pendingCycles := rfl
@[simp] theorem State.advancePc_log (v : Word) : (s.advancePc v).log = s.log := rfl
@[simp] theorem State.advancePc_freeIdx (v : Word) : (s.advancePc v).freeIdx = s.freeIdx := rfl
@[simp] theorem State.advancePc_callback (v : Word) : (s.advancePc v).callback = s.callback := rfl
@[simp] theorem State.advancePc_delivered (v : Word) : (s.advancePc v).delivered = s.delivered := rfl

/-! `State.setCpsr` -/

@[simp] theorem State.setCpsr_regs (c : Cpsr) : (s.setCpsr c).regs = s.regs := rfl
@[simp] theorem State.setCpsr_pc (c : Cpsr) : (s.setCpsr c).pc = s.pc := rfl
@[simp] theorem State.setCpsr_cpsr (c : Cpsr) : (s.setCpsr c).cpsr = c := rfl
@[simp] theorem State.setCpsr_spsr (c : Cpsr) : (s.setCpsr c).spsr = s.spsr := rfl
@[simp] theorem State.setCpsr_halted (c : Cpsr) : (s.setCpsr c).halted = s.halted := rfl
@[simp] theorem State.setCpsr_stopped (c : Cpsr) : (s.setCpsr c).stopped = s.stopped := rfl
@[simp] theorem State.setCpsr_faulted (c : Cpsr) : (s.setCpsr c).faulted = s.faulted := rfl
@[simp] theorem State.setCpsr_waitKind (c : Cpsr) : (s.setCpsr c).waitKind = s.waitKind := rfl
@[simp] theorem State.setCpsr_waitMask (c : Cpsr) : (s.setCpsr c).waitMask = s.waitMask := rfl
@[simp] theorem State.setCpsr_cycleCount (c : Cpsr) : (s.setCpsr c).cycleCount = s.cycleCount := rfl
@[simp] theorem State.setCpsr_instrCount (c : Cpsr) : (s.setCpsr c).instrCount = s.instrCount := rfl
@[simp] theorem State.setCpsr_ic (c : Cpsr) : (s.setCpsr c).ic = s.ic := rfl
@[simp] theorem State.setCpsr_ppu (c : Cpsr) : (s.setCpsr c).ppu = s.ppu := rfl
@[simp] theorem State.setCpsr_mem (c : Cpsr) : (s.setCpsr c).mem = s.mem := rfl
@[simp] theorem State.setCpsr_cart (c : Cpsr) : (s.setCpsr c).cart = s.cart := rfl
@[simp] theorem State.setCpsr_params (c : Cpsr) : (s.setCpsr c).params = s.params := rfl
@[simp] theorem State.setCpsr_pendingCycles (c : Cpsr) : (s.setCpsr c).pendingCycles = s.pendingCycles := rfl
@[simp] theorem State.setCpsr_log (c : Cpsr) : (s.setCpsr c).log = s.log := rfl
@[simp] theorem State.setCpsr_freeIdx (c : Cpsr) : (s.setCpsr c).freeIdx = s.freeIdx := rfl
@[simp] theorem State.setCpsr_callback (c : Cpsr) : (s.setCpsr c).callback = s.callback := rfl
@[simp] theorem State.setCpsr_delivered (c : Cpsr) : (s.setCpsr c).delivered = s.delivered := rfl

/-! `State.setSpsr` -/

@[simp] theorem State.setSpsr_regs (e : Exc) (p : Psr) : (s.setSpsr e p).regs = s.regs := rfl
@[simp] theorem State.setSpsr_pc (e : Exc) (p : Psr) : (s.setSpsr e p).pc = s.pc := rfl
@[simp] theorem State.setSpsr_cpsr (e : Exc) (p : Psr) : (s.setSpsr e p).cpsr = s.cpsr := rfl
@[simp] theorem State.setSpsr_spsr (e : Exc) (p : Psr) : (s.setSpsr e p).spsr = s.spsr.set e.idx p := rfl
@[simp] theorem State.setSpsr_halted (e : Exc) (p : Psr) : (s.setSpsr e p).halted = s.halted := rfl
@[simp] theorem State.setSpsr_stopped (e : Exc) (p : Psr) : (s.setSpsr e p).stopped = s.stopped := rfl
@[simp] theorem State.setSpsr_faulted (e : Exc) (p : Psr) : (s.setSpsr e p).faulted = s.faulted := rfl
@[simp] theorem State.setSpsr_waitKind (e : Exc) (p : Psr) : (s.setSpsr e p).waitKind = s.waitKind := rfl
@[simp] theorem State.setSpsr_waitMask (e : Exc) (p : Psr) : (s.setSpsr e p).waitMask = s.waitMask := rfl
@[simp] theorem State.setSpsr_cycleCount (e : Exc) (p : Psr) : (s.setSpsr e p).cycleCount = s.cycleCount := rfl
@[simp] theorem State.setSpsr_instrCount (e : Exc) (p : Psr) : (s.setSpsr e p).instrCount = s.instrCount := rfl
@[simp] theorem State.setSpsr_ic (e : Exc) (p : Psr) : (s.setSpsr e p).ic = s.ic := rfl
@[simp] theorem State.setSpsr_ppu (e : Exc) (p : Psr) : (s.setSpsr e p).ppu = s.ppu := rfl
@[simp] theorem State.setSpsr_mem (e : Exc) (p : Psr) : (s.setSpsr e p).mem = s.mem := rfl
@[simp] theorem State.setSpsr_cart (e : Exc) (p : Psr) : (s.setSpsr e p).cart = s.cart := rfl
@[simp] theorem State.setSpsr_params (e : Exc) (p : Psr) : (s.setSpsr e p).params = s.params := rfl
@[simp] theorem State.setSpsr_pendingCycles (e : Exc) (p : Psr) : (s.setSpsr e p).pendingCycles = s.pendingCycles := rfl
@[simp] theorem State.setSpsr_log (e : Exc) (p : Psr) : (s.setSpsr e p).log = s.log := rfl
@[simp] theorem State.setSpsr_freeIdx (e : Exc) (p : Psr) : (s.setSpsr e p).freeIdx = s.freeIdx := rfl
@[simp] theorem State.setSpsr_callback (e : Exc) (p : Psr) : (s.setSpsr e p).callback = s.callback := rfl
@[simp] theorem State.setSpsr_delivered (e : Exc) (p : Psr) : (s.setSpsr e p).delivered = s.delivered := rfl

/-! `State.drawn` -/

@[simp] theorem State.drawn_regs : (s.drawn).regs = s.regs := rfl
@[simp] theorem State.drawn_pc : (s.drawn).pc = s.pc := rfl
@[simp] theorem State.drawn_cpsr : (s.drawn).cpsr = s.cpsr := rfl
@[simp] theorem State.drawn_spsr : (s.drawn).spsr = s.spsr := rfl
@[simp] theorem State.drawn_halted : (s.drawn).halted = s.halted := rfl
@[simp] theorem State.drawn_stopped : (s.drawn).stopped = s.stopped := rfl
@[simp] theorem State.drawn_faulted : (s.drawn).faulted = s.faulted := rfl
@[simp] theorem State.drawn_waitKind : (s.drawn).waitKind = s.waitKind := rfl
@[simp] theorem State.drawn_waitMask : (s.drawn).waitMask = s.waitMask := rfl
@[simp] theorem State.drawn_cycleCount : (s.drawn).cycleCount = s.cycleCount := rfl
@[simp] theorem State.drawn_instrCount : (s.drawn).instrCount = s.instrCount := rfl
@[simp] theorem State.drawn_ic : (s.drawn).ic = s.ic := rfl
@[simp] theorem State.drawn_ppu : (s.drawn).ppu = s.ppu := rfl
@[simp] theorem State.drawn_mem : (s.drawn).mem = s.mem := rfl
@[simp] theorem State.drawn_cart : (s.drawn).cart = s.cart := rfl
@[simp] theorem State.drawn_params : (s.drawn).params = s.params := rfl
@[simp] theorem State.drawn_pendingCycles : (s.drawn).pendingCycles = s.pendingCycles := rfl
@[simp] theorem State.drawn_log : (s.drawn).log = s.log := rfl
@[simp] theorem State.drawn_freeIdx : (s.drawn).freeIdx = s.freeIdx + 1 := rfl
@[simp] theorem State.drawn_callback : (s.drawn).callback = s.callback := rfl
@[simp] theorem State.drawn_delivered : (s.drawn).delivered = s.delivered := rfl

/-! `State.report` -/

@[simp] theorem State.report_regs (e : Event) : (s.report e).regs = s.regs := rfl
@[simp] theorem State.report_pc (e : Event) : (s.report e).pc = s.pc := rfl
@[simp] theorem State.report_cpsr (e : Event) : (s.report e).cpsr = s.cpsr := rfl
@[simp] theorem State.report_spsr (e : Event) : (s.report e).spsr = s.spsr := rfl
@[simp] theorem State.report_halted (e : Event) : (s.report e).halted = s.halted := rfl
@[simp] theorem State.report_stopped (e : Event) : (s.report e).stopped = s.stopped := rfl
@[simp] theorem State.report_faulted (e : Event) : (s.report e).faulted = s.faulted := rfl
@[simp] theorem State.report_waitKind (e : Event) : (s.report e).waitKind = s.waitKind := rfl
@[simp] theorem State.report_waitMask (e : Event) : (s.report e).waitMask = s.waitMask := rfl
@[simp] theorem State.report_cycleCount (e : Event) : (s.report e).cycleCount = s.cycleCount := rfl
@[simp] theorem State.report_instrCount (e : Event) : (s.report e).instrCount = s.instrCount := rfl
@[simp] theorem State.report_ic (e : Event) : (s.report e).ic = s.ic := rfl
@[simp] theorem State.report_ppu (e : Event) : (s.report e).ppu = s.ppu := rfl
@[simp] theorem State.report_mem (e : Event) : (s.report e).mem = s.mem := rfl
@[simp] theorem State.report_cart (e : Event) : (s.report e).cart = s.cart := rfl
@[simp] theorem State.report_params (e : Event) : (s.report e).params = s.params := rfl
@[simp] theorem State.report_pendingCycles (e : Event) : (s.report e).pendingCycles = s.pendingCycles := rfl
@[simp] theorem State.report_log (e : Event) : (s.report e).log = e :: s.log := rfl
@[simp] theorem State.report_freeIdx (e : Event) : (s.report e).freeIdx = s.freeIdx := rfl
@[simp] theorem State.report_callback (e : Event) : (s.report e).callback = s.callback := rfl
@[simp] theorem State.report_delivered (e : Event) : (s.report e).delivered = s.delivered := rfl

/-! `State.setPpu` -/

@[simp] theorem State.setPpu_regs (p : Ppu) : (s.setPpu p).regs = s.regs := rfl
@[simp] theorem State.setPpu_pc (p : Ppu) : (s.setPpu p).pc = s.pc := rfl
@[simp] theorem State.setPpu_cpsr (p : Ppu) : (s.setPpu p).cpsr = s.cpsr := rfl
@[simp] theorem State.setPpu_spsr (p : Ppu) : (s.setPpu p).spsr = s.spsr := rfl
@[simp] theorem State.setPpu_halted (p : Ppu) : (s.setPpu p).halted = s.halted := rfl
@[simp] theorem State.setPpu_stopped (p : Ppu) : (s.setPpu p).stopped = s.stopped := rfl
@[simp] theorem State.setPpu_faulted (p : Ppu) : (s.setPpu p).faulted = s.faulted := rfl
@[simp] theorem State.setPpu_waitKind (p : Ppu) : (s.setPpu p).waitKind = s.waitKind := rfl
@[simp] theorem State.setPpu_waitMask (p : Ppu) : (s.setPpu p).waitMask = s.waitMask := rfl
@[simp] theorem State.setPpu_cycleCount (p : Ppu) : (s.setPpu p).cycleCount = s.cycleCount := rfl
@[simp] theorem State.setPpu_instrCount (p : Ppu) : (s.setPpu p).instrCount = s.instrCount := rfl
@[simp] theorem State.setPpu_ic (p : Ppu) : (s.setPpu p).ic = s.ic := rfl
@[simp] theorem State.setPpu_ppu (p : Ppu) : (s.setPpu p).ppu = p := rfl
@[simp] theorem State.setPpu_mem (p : Ppu) : (s.setPpu p).mem = s.mem := rfl
@[simp] theorem State.setPpu_cart (p : Ppu) : (s.setPpu p).cart = s.cart := rfl
@[simp] theorem State.setPpu_params (p : Ppu) : (s.setPpu p).params = s.params := rfl
@[simp] theorem State.setPpu_pendingCycles (p : Ppu) : (s.setPpu p).pendingCycles = s.pendingCycles := rfl
@[simp] theorem State.setPpu_log (p : Ppu) : (s.setPpu p).log = s.log := rfl
@[simp] theorem State.setPpu_freeIdx (p : Ppu) : (s.setPpu p).freeIdx = s.freeIdx := rfl
@[simp] theorem State.setPpu_callback (p : Ppu) : (s.setPpu p).callback = s.callback := rfl
@[simp] theorem State.setPpu_delivered (p : Ppu) : (s.setPpu p).delivered = s.delivered := rfl

/-! `State.setIc` -/

@[simp] theorem State.setIc_regs (c : IntController) : (s.setIc c).regs = s.regs := rfl
@[simp] theorem State.setIc_pc (c : IntController) : (s.setIc c).pc = s.pc := rfl
@[simp] theorem State.setIc_cpsr (c : IntController) : (s.setIc c).cpsr = s.cpsr := rfl
@[simp] theorem State.setIc_spsr (c : IntController) : (s.setIc c).spsr = s.spsr := rfl
@[simp] theorem State.setIc_halted (c : IntController) : (s.setIc c).halted = s.halted := rfl
@[simp] theorem State.setIc_stopped (c : IntController) : (s.setIc c).stopped = s.stopped := rfl
@[simp] theorem State.setIc_faulted (c : IntController) : (s.setIc c).faulted = s.faulted := rfl
@[simp] theorem State.setIc_waitKind (c : IntController) : (s.setIc c).waitKind = s.waitKind := rfl
@[simp] theorem State.setIc_waitMask (c : IntController) : (s.setIc c).waitMask = s.waitMask := rfl
@[simp] theorem State.setIc_cycleCount (c : IntController) : (s.setIc c).cycleCount = s.cycleCount := rfl
@[simp] theorem State.setIc_instrCount (c : IntController) : (s.setIc c).instrCount = s.instrCount := rfl
@[simp] theorem State.setIc_ic (c : IntController) : (s.setIc c).ic = c := rfl
@[simp] theorem State.setIc_ppu (c : IntController) : (s.setIc c).ppu = s.ppu := rfl
@[simp] theorem State.setIc_mem (c : IntController) : (s.setIc c).mem = s.mem := rfl
@[simp] theorem State.setIc_cart (c : IntController) : (s.setIc c).cart = s.cart := rfl
@[simp] theorem State.setIc_params (c : IntController) : (s.setIc c).params = s.params := rfl
@[simp] theorem State.setIc_pendingCycles (c : IntController) : (s.setIc c).pendingCycles = s.pendingCycles := rfl
@[simp] theorem State.setIc_log (c : IntController) : (s.setIc c).log = s.log := rfl
@[simp] theorem State.setIc_freeIdx (c : IntController) : (s.setIc c).freeIdx = s.freeIdx := rfl
@[simp] theorem State.setIc_callback (c : IntController) : (s.setIc c).callback = s.callback := rfl
@[simp] theorem State.setIc_delivered (c : IntController) : (s.setIc c).delivered = s.delivered := rfl

/-! `State.setMem` -/

@[simp] theorem State.setMem_regs (m : List Host.Cell) : (s.setMem m).regs = s.regs := rfl
@[simp] theorem State.setMem_pc (m : List Host.Cell) : (s.setMem m).pc = s.pc := rfl
@[simp] theorem State.setMem_cpsr (m : List Host.Cell) : (s.setMem m).cpsr = s.cpsr := rfl
@[simp] theorem State.setMem_spsr (m : List Host.Cell) : (s.setMem m).spsr = s.spsr := rfl
@[simp] theorem State.setMem_halted (m : List Host.Cell) : (s.setMem m).halted = s.halted := rfl
@[simp] theorem State.setMem_stopped (m : List Host.Cell) : (s.setMem m).stopped = s.stopped := rfl
@[simp] theorem State.setMem_faulted (m : List Host.Cell) : (s.setMem m).faulted = s.faulted := rfl
@[simp] theorem State.setMem_waitKind (m : List Host.Cell) : (s.setMem m).waitKind = s.waitKind := rfl
@[simp] theorem State.setMem_waitMask (m : List Host.Cell) : (s.setMem m).waitMask = s.waitMask := rfl
@[simp] theorem State.setMem_cycleCount (m : List Host.Cell) : (s.setMem m).cycleCount = s.cycleCount := rfl
@[simp] theorem State.setMem_instrCount (m : List Host.Cell) : (s.setMem m).instrCount = s.instrCount := rfl
@[simp] theorem State.setMem_ic (m : List Host.Cell) : (s.setMem m).ic = s.ic := rfl
@[simp] theorem State.setMem_ppu (m : List Host.Cell) : (s.setMem m).ppu = s.ppu := rfl
@[simp] theorem State.setMem_mem (m : List Host.Cell) : (s.setMem m).mem = m := rfl
@[simp] theorem State.setMem_cart (m : List Host.Cell) : (s.setMem m).cart = s.cart := rfl
@[simp] theorem State.setMem_params (m : List Host.Cell) : (s.setMem m).params = s.params := rfl
@[simp] theorem State.setMem_pendingCycles (m : List Host.Cell) : (s.setMem m).pendingCycles = s.pendingCycles := rfl
@[simp] theorem State.setMem_log (m : List Host.Cell) : (s.setMem m).log = s.log := rfl
@[simp] theorem State.setMem_freeIdx (m : List Host.Cell) : (s.setMem m).freeIdx = s.freeIdx := rfl
@[simp] theorem State.setMem_callback (m : List Host.Cell) : (s.setMem m).callback = s.callback := rfl
@[simp] theorem State.setMem_delivered (m : List Host.Cell) : (s.setMem m).delivered = s.delivered := rfl

/-! `State.counted` -/

@[simp] theorem State.counted_regs : (s.counted).regs = s.regs := rfl
@[simp] theorem State.counted_pc : (s.counted).pc = s.pc := rfl
@[simp] theorem State.counted_cpsr : (s.counted).cpsr = s.cpsr := rfl
@[simp] theorem State.counted_spsr : (s.counted).spsr = s.spsr := rfl
@[simp] theorem State.counted_halted : (s.counted).halted = s.halted := rfl
@[simp] theorem State.counted_stopped : (s.counted).stopped = s.stopped := rfl
@[simp] theorem State.counted_faulted : (s.counted).faulted = s.faulted := rfl
@[simp] theorem State.counted_waitKind : (s.counted).waitKind = s.waitKind := rfl
@[simp] theorem State.counted_waitMask : (s.counted).waitMask = s.waitMask := rfl
@[simp] theorem State.counted_cycleCount : (s.counted).cycleCount = s.cycleCount := rfl
@[simp] theorem State.counted_instrCount : (s.counted).instrCount = s.instrCount + 1 := rfl
@[simp] theorem State.counted_ic : (s.counted).ic = s.ic := rfl
@[simp] theorem State.counted_ppu : (s.counted).ppu = s.ppu := rfl
@[simp] theorem State.counted_mem : (s.counted).mem = s.mem := rfl
@[simp] theorem State.counted_cart : (s.counted).cart = s.cart := rfl
@[simp] theorem State.counted_params : (s.counted).params = s.params := rfl
@[simp] theorem State.counted_pendingCycles : (s.counted).pendingCycles = s.pendingCycles := rfl
@[simp] theorem State.counted_log : (s.counted).log = s.log := rfl
@[simp] theorem State.counted_freeIdx : (s.counted).freeIdx = s.freeIdx := rfl
@[simp] theorem State.counted_callback : (s.counted).callback = s.callback := rfl
@[simp] theorem State.counted_delivered : (s.counted).delivered = s.delivered := rfl

/-! `State.unstopped` -/

@[simp] theorem State.unstopped_regs : (s.unstopped).regs = s.regs := rfl
@[simp] theorem State.unstopped_pc : (s.unstopped).pc = s.pc := rfl
@[simp] theorem State.unstopped_cpsr : (s.unstopped).cpsr = s.cpsr := rfl
@[simp] theorem State.unstopped_spsr : (s.unstopped).spsr = s.spsr := rfl
@[simp] theorem State.unstopped_halted : (s.unstopped).halted = s.halted := rfl
@[simp] theorem State.unstopped_stopped : (s.unstopped).stopped = false := rfl
@[simp] theorem State.unstopped_faulted : (s.unstopped).faulted = s.faulted := rfl
@[simp] theorem State.unstopped_waitKind : (s.unstopped).waitKind = s.waitKind := rfl
@[simp] theorem State.unstopped_waitMask : (s.unstopped).waitMask = s.waitMask := rfl
@[simp] theorem State.unstopped_cycleCount : (s.unstopped).cycleCount = s.cycleCount := rfl
@[simp] theorem State.unstopped_instrCount : (s.unstopped).instrCount = s.instrCount := rfl
@[simp] theorem State.unstopped_ic : (s.unstopped).ic = s.ic := rfl
@[simp] theorem State.unstopped_ppu : (s.unstopped).ppu = s.ppu := rfl
@[simp] theorem State.unstopped_mem : (s.unstopped).mem = s.mem := rfl
@[simp] theorem State.unstopped_cart : (s.unstopped).cart = s.cart := rfl
@[simp] theorem State.unstopped_params : (s.unstopped).params = s.params := rfl
@[simp] theorem State.unstopped_pendingCycles : (s.unstopped).pendingCycles = s.pendingCycles := rfl
@[simp] theorem State.unstopped_log : (s.unstopped).log = s.log := rfl
@[simp] theorem State.unstopped_freeIdx : (s.unstopped).freeIdx = s.freeIdx := rfl
@[simp] theorem State.unstopped_callback : (s.unstopped).callback = s.callback := rfl
@[simp] theorem State.unstopped_delivered : (s.unstopped).delivered = s.delivered := rfl

/-! `State.unhalted` -/

@[simp] theorem State.unhalted_regs : (s.unhalted).regs = s.regs := rfl
@[simp] theorem State.unhalted_pc : (s.unhalted).pc = s.pc := rfl
@[simp] theorem State.unhalted_cpsr : (s.unhalted).cpsr = s.cpsr := rfl
@[simp] theorem State.unhalted_spsr : (s.unhalted).spsr = s.spsr := rfl
@[simp] theorem State.unhalted_halted : (s.unhalted).halted = false := rfl
@[simp] theorem State.unhalted_stopped : (s.unhalted).stopped = s.stopped := rfl
@[simp] theorem State.unhalted_faulted : (s.unhalted).faulted = s.faulted := rfl
@[simp] theorem State.unhalted_waitKind : (s.unhalted).waitKind = .none := rfl
@[simp] theorem State.unhalted_waitMask : (s.unhalted).waitMask = s.waitMask := rfl
@[simp] theorem State.unhalted_cycleCount : (s.unhalted).cycleCount = s.cycleCount := rfl
@[simp] theorem State.unhalted_instrCount : (s.unhalted).instrCount = s.instrCount := rfl
@[simp] theorem State.unhalted_ic : (s.unhalted).ic = s.ic := rfl
@[simp] theorem State.unhalted_ppu : (s.unhalted).ppu = s.ppu := rfl
@[simp] theorem State.unhalted_mem : (s.unhalted).mem = s.mem := rfl
@[simp] theorem State.unhalted_cart : (s.unhalted).cart = s.cart := rfl
@[simp] theorem State.unhalted_params : (s.unhalted).params = s.params := rfl
@[simp] theorem State.unhalted_pendingCycles : (s.unhalted).pendingCycles = s.pendingCycles := rfl
@[simp] theorem State.unhalted_log : (s.unhalted).log = s.log := rfl
@[simp] theorem State.unhalted_freeIdx : (s.unhalted).freeIdx = s.freeIdx := rfl
@[simp] theorem State.unhalted_callback : (s.unhalted).callback = s.callback := rfl
@[simp] theorem State.unhalted_delivered : (s.unhalted).delivered = s.delivered := rfl

end Sys2Proof.Machine
end

