-- ==== Sys2Proof/Laws/Registers.lean ====
section
/-! SUPPORT. What reading a register gives after an update: each register is its own cell (10 R101, R103). -/

namespace Sys2Proof.Machine

theorem GReg.idx_injective (g h : GReg) (e : g.idx = h.idx) : g = h := by
  have hv : g.idx.val = h.idx.val := congrArg Fin.val e
  cases g with
  | low n => cases h with
    | low m => simp only [GReg.idx] at hv; congr 1; omega
    | mid b m => cases b <;> simp only [GReg.idx] at hv <;> omega
    | sp b => simp only [GReg.idx] at hv; omega
    | lr b => simp only [GReg.idx] at hv; omega
  | mid a n => cases h with
    | low m => cases a <;> simp only [GReg.idx] at hv <;> omega
    | mid b m => cases a <;> cases b <;> simp only [GReg.idx] at hv <;> first | omega | (congr 1; omega)
    | sp b => cases a <;> simp only [GReg.idx] at hv <;> omega
    | lr b => cases a <;> simp only [GReg.idx] at hv <;> omega
  | sp a => cases h with
    | low m => simp only [GReg.idx] at hv; omega
    | mid b m => cases b <;> simp only [GReg.idx] at hv <;> omega
    | sp b => cases a <;> cases b <;> first | rfl | (simp [GReg.idx, Bank.idx] at hv)
    | lr b => simp only [GReg.idx] at hv; omega
  | lr a => cases h with
    | low m => simp only [GReg.idx] at hv; omega
    | mid b m => cases b <;> simp only [GReg.idx] at hv <;> omega
    | sp b => simp only [GReg.idx] at hv; omega
    | lr b => cases a <;> cases b <;> first | rfl | (simp [GReg.idx, Bank.idx] at hv)

theorem Exc.idx_injective (a b : Exc) (h : a.idx = b.idx) : a = b := by
  cases a <;> cases b <;> first | rfl | (simp [Exc.idx] at h)

/-- A write of one register is read there, and nowhere else. -/
theorem State.greg_setGreg (s : State) (g h : GReg) (v : Word) :
    (s.setGreg g v).greg h = if h = g then v else s.greg h := by
  unfold State.greg State.setGreg
  by_cases e : h = g
  · subst e; simp
  · rw [if_neg e]
    exact Vector.getElem_set_ne g.idx.isLt h.idx.isLt (fun c => e (GReg.idx_injective _ _ (Fin.ext c.symm)))

@[simp] theorem State.greg_setGreg_self (s : State) (g : GReg) (v : Word) : (s.setGreg g v).greg g = v := by
  rw [State.greg_setGreg, if_pos rfl]

theorem State.greg_setGreg_ne (s : State) (g h : GReg) (v : Word) (e : h ≠ g) : (s.setGreg g v).greg h = s.greg h := by
  rw [State.greg_setGreg, if_neg e]

/-- Registers depend on `regs` alone. -/
theorem State.greg_congr {s t : State} (h : t.regs = s.regs) (g : GReg) : t.greg g = s.greg g := by
  unfold State.greg; rw [h]

theorem State.spsrOf_setSpsr (s : State) (e f : Exc) (p : Psr) :
    (s.setSpsr e p).spsrOf f = if f = e then p else s.spsrOf f := by
  unfold State.spsrOf State.setSpsr
  by_cases h : f = e
  · subst h; simp
  · rw [if_neg h]
    exact Vector.getElem_set_ne e.idx.isLt f.idx.isLt (fun c => h (Exc.idx_injective _ _ (Fin.ext c.symm)))

theorem State.spsrOf_congr {s t : State} (h : t.spsr = s.spsr) (e : Exc) : t.spsrOf e = s.spsrOf e := by
  unfold State.spsrOf; rw [h]

@[simp] theorem State.greg_setPc (s : State) (v : Word) (g : GReg) : (s.setPc v).greg g = s.greg g := rfl
@[simp] theorem State.greg_advancePc (s : State) (v : Word) (g : GReg) : (s.advancePc v).greg g = s.greg g := rfl
@[simp] theorem State.greg_setCpsr (s : State) (c : Cpsr) (g : GReg) : (s.setCpsr c).greg g = s.greg g := rfl
@[simp] theorem State.greg_setSpsr (s : State) (e : Exc) (p : Psr) (g : GReg) : (s.setSpsr e p).greg g = s.greg g := rfl
@[simp] theorem State.greg_drawn (s : State) (g : GReg) : s.drawn.greg g = s.greg g := rfl
@[simp] theorem State.greg_report (s : State) (e : Event) (g : GReg) : (s.report e).greg g = s.greg g := rfl
@[simp] theorem State.greg_setPpu (s : State) (p : Ppu) (g : GReg) : (s.setPpu p).greg g = s.greg g := rfl
@[simp] theorem State.greg_setIc (s : State) (c : IntController) (g : GReg) : (s.setIc c).greg g = s.greg g := rfl
@[simp] theorem State.greg_setMem (s : State) (m : List Host.Cell) (g : GReg) : (s.setMem m).greg g = s.greg g := rfl
@[simp] theorem State.spsrOf_setGreg (s : State) (g : GReg) (v : Word) (e : Exc) : (s.setGreg g v).spsrOf e = s.spsrOf e := rfl
@[simp] theorem State.spsrOf_setPc (s : State) (v : Word) (e : Exc) : (s.setPc v).spsrOf e = s.spsrOf e := rfl
@[simp] theorem State.spsrOf_advancePc (s : State) (v : Word) (e : Exc) : (s.advancePc v).spsrOf e = s.spsrOf e := rfl
@[simp] theorem State.spsrOf_setCpsr (s : State) (c : Cpsr) (e : Exc) : (s.setCpsr c).spsrOf e = s.spsrOf e := rfl

/-! ### Which register a number names -/

theorem bank_pc (m : Mode) : bank m 15 = .pc := by cases m <;> rfl

/-- Only R15 names the program counter. -/
theorem bank_eq_pc {m : Mode} {n : Reg} (h : bank m n = .pc) : n = 15 := by
  revert h; cases m <;> (revert n; decide)

/-- A number other than 15 names a general register. -/
theorem bank_gen (m : Mode) {n : Reg} (h : n ≠ 15) : ∃ g, bank m n = .gen g := by
  cases e : bank m n with
  | gen g => exact ⟨g, rfl⟩
  | pc => exact absurd (bank_eq_pc e) h

/-- Different numbers never name one register, in any modes. -/
theorem bank_injective {m m' : Mode} {n n' : Reg} (h : bank m n = bank m' n') : n = n' := by
  revert h; cases m <;> cases m' <;> (revert n n'; decide)

theorem bank_low (m : Mode) (r : LoReg) : bank m (loReg r) = .gen (.low r) := by
  cases m <;> (revert r; decide)

theorem bank_sp (m : Mode) : bank m 13 = .gen (.sp m.bank) := by cases m <;> rfl

theorem bank_lr (m : Mode) : bank m 14 = .gen (.lr m.bank) := by cases m <;> rfl

theorem State.regOf_pc (s : State) (m : Mode) (off : Word) : s.regOf m off 15 = s.pc + off := by
  unfold State.regOf; rw [bank_pc]

/-- Reading a number other than 15 does not depend on the PC offset. -/
theorem State.regOf_gen (s : State) {m : Mode} {n : Reg} {g : GReg} (off : Word) (h : bank m n = .gen g) :
    s.regOf m off n = s.greg g := by
  unfold State.regOf; rw [h]

theorem State.setRegOf_gen (s : State) {m : Mode} {n : Reg} {g : GReg} (v : Word) (h : bank m n = .gen g) :
    s.setRegOf m n v = s.setGreg g v := by
  unfold State.setRegOf; rw [h]

/-- Registers written by number, in any bank, are read as the bank mapping says. -/
theorem State.regOf_setRegOf (s : State) (m m' : Mode) (n n' : Reg) (v off : Word) (hn : n ≠ 15) (hn' : n' ≠ 15) :
    (s.setRegOf m n v).regOf m' off n' = if bank m' n' = bank m n then v else s.regOf m' off n' := by
  obtain ⟨g, hg⟩ := bank_gen m hn
  obtain ⟨g', hg'⟩ := bank_gen m' hn'
  rw [State.setRegOf_gen _ _ hg, State.regOf_gen _ _ hg', State.regOf_gen _ _ hg', State.greg_setGreg, hg, hg']
  by_cases e : g' = g <;> simp [e]

end Sys2Proof.Machine
end

