-- ==== Sys2Proof/Laws/Sparse.lean ====
section
/-! SUPPORT. Sparse arrays: read after write, and that every operation keeps the canonical form. -/

namespace Sys2Proof.Machine

variable {α : Type}

theorem Sparse.get_insert (d : α) (l : List (Nat × α)) (k : Nat) (v : α) (j : Nat) :
    Sparse.get d (Sparse.insert l k v) j = if j = k then v else Sparse.get d l j := by
  induction l with
  | nil => simp [Sparse.insert, Sparse.get, eq_comm]
  | cons e rest ih =>
    unfold Sparse.insert
    split
    · simp [Sparse.get, eq_comm]
    · split
      · next h =>
        subst h
        by_cases c : e.1 = j
        · simp [Sparse.get, c]
        · simp [Sparse.get, c, Ne.symm c]
      · next h =>
        simp only [Sparse.get, ih]
        by_cases c : e.1 = j
        · have hj : j ≠ k := fun x => h (c.trans x)
          simp [c, hj]
        · simp [c]

theorem Sparse.get_filter (d : α) (l : List (Nat × α)) (p : Nat → Bool) (j : Nat) :
    Sparse.get d (l.filter fun e => p e.1) j = if p j then Sparse.get d l j else d := by
  induction l with
  | nil => simp [Sparse.get]
  | cons e rest ih =>
    by_cases c : e.1 = j
    · subst c
      by_cases hp : p e.1
      · simp [hp, Sparse.get]
      · simpa [hp] using ih
    · by_cases hp : p e.1
      · simp [hp, Sparse.get, c, ih]
      · simp [hp, Sparse.get, c, ih]

/-- A write is read at its own key, and nowhere else. -/
theorem Sparse.get_set [DecidableEq α] (d : α) (l : List (Nat × α)) (k : Nat) (v : α) (j : Nat) :
    Sparse.get d (Sparse.set d l k v) j = if j = k then v else Sparse.get d l j := by
  unfold Sparse.set Sparse.erase
  split
  · next h =>
    subst h
    rw [Sparse.get_filter v l (fun n => !(n == k))]
    by_cases c : j = k <;> simp [c]
  · exact Sparse.get_insert d l k v j

/-- A cleared range reads as the default, and every other key as before. -/
theorem Sparse.get_clear (d : α) (l : List (Nat × α)) (lo hi j : Nat) :
    Sparse.get d (Sparse.clear l lo hi) j = if lo ≤ j ∧ j < hi then d else Sparse.get d l j := by
  unfold Sparse.clear
  rw [Sparse.get_filter d l (fun n => n < lo || hi ≤ n)]
  by_cases c : lo ≤ j ∧ j < hi
  · rw [if_pos c, if_neg (by simp; omega)]
  · rw [if_neg c, if_pos (by simp; omega)]

theorem Sparse.above_filter (k : Nat) (l : List (Nat × α)) (p : Nat × α → Bool) (h : Sparse.above k l = true) :
    Sparse.above k (l.filter p) = true := by
  induction l with
  | nil => exact h
  | cons e rest ih =>
    simp only [Sparse.above, Bool.and_eq_true] at h
    by_cases c : p e
    · simp [c, Sparse.above, h.1, ih h.2]
    · simpa [c] using ih h.2

theorem Sparse.above_insert (j : Nat) (l : List (Nat × α)) (k : Nat) (v : α) (hj : j < k)
    (h : Sparse.above j l = true) : Sparse.above j (Sparse.insert l k v) = true := by
  induction l with
  | nil => simp [Sparse.insert, Sparse.above, hj]
  | cons e rest ih =>
    simp only [Sparse.above, Bool.and_eq_true, decide_eq_true_eq] at h
    unfold Sparse.insert
    split
    · simp [Sparse.above, hj, h.1, h.2]
    · split <;> simp [Sparse.above, hj, h.1, h.2, ih h.2]

theorem Sparse.above_mono {j k : Nat} (l : List (Nat × α)) (hjk : j ≤ k) (h : Sparse.above k l = true) :
    Sparse.above j l = true := by
  induction l with
  | nil => rfl
  | cons e rest ih =>
    simp only [Sparse.above, Bool.and_eq_true, decide_eq_true_eq] at h ⊢
    exact ⟨by omega, ih h.2⟩

/-- Filtering keeps the canonical form. -/
theorem Sparse.wf_filter [DecidableEq α] (d : α) (l : List (Nat × α)) (p : Nat × α → Bool) (h : Sparse.wf d l = true) :
    Sparse.wf d (l.filter p) = true := by
  induction l with
  | nil => rfl
  | cons e rest ih =>
    simp only [Sparse.wf, Bool.and_eq_true] at h
    by_cases c : p e
    · simp only [c, List.filter_cons_of_pos, Sparse.wf, Bool.and_eq_true]
      exact ⟨⟨h.1.1, Sparse.above_filter _ _ _ h.1.2⟩, ih h.2⟩
    · simpa [c] using ih h.2

theorem Sparse.wf_insert [DecidableEq α] (d : α) (l : List (Nat × α)) (k : Nat) (v : α) (hv : v ≠ d)
    (h : Sparse.wf d l = true) : Sparse.wf d (Sparse.insert l k v) = true := by
  induction l with
  | nil => simp [Sparse.insert, Sparse.wf, Sparse.above, hv]
  | cons e rest ih =>
    have h' := h
    simp only [Sparse.wf, Bool.and_eq_true, decide_eq_true_eq] at h'
    obtain ⟨⟨he, ha⟩, hr⟩ := h'
    unfold Sparse.insert
    split
    · next hk =>
      simp only [Sparse.wf, Sparse.above, Bool.and_eq_true, decide_eq_true_eq]
      exact ⟨⟨hv, hk, Sparse.above_mono rest (Nat.le_of_lt hk) ha⟩, ⟨he, ha⟩, hr⟩
    · split
      · next hk => subst hk; simp [Sparse.wf, hv, ha, hr]
      · next h1 h2 =>
        simp only [Sparse.wf, Bool.and_eq_true, decide_eq_true_eq]
        exact ⟨⟨he, Sparse.above_insert _ _ _ _ (by omega) ha⟩, ih hr⟩

/-- A write keeps the canonical form. -/
theorem Sparse.wf_set [DecidableEq α] (d : α) (l : List (Nat × α)) (k : Nat) (v : α) (h : Sparse.wf d l = true) :
    Sparse.wf d (Sparse.set d l k v) = true := by
  unfold Sparse.set Sparse.erase
  split
  · exact Sparse.wf_filter d l _ h
  · next hv => exact Sparse.wf_insert d l k v hv h

/-- Clearing a range keeps the canonical form. -/
theorem Sparse.wf_clear [DecidableEq α] (d : α) (l : List (Nat × α)) (lo hi : Nat) (h : Sparse.wf d l = true) :
    Sparse.wf d (Sparse.clear l lo hi) = true := Sparse.wf_filter d l _ h

/-- A property of entries that the written one has is kept by a write. -/
theorem Sparse.all_set [DecidableEq α] (d : α) (l : List (Nat × α)) (k : Nat) (v : α) (p : Nat × α → Bool)
    (h : l.all p = true) (hp : v ≠ d → p (k, v) = true) : (Sparse.set d l k v).all p = true := by
  have hins : ∀ l : List (Nat × α), l.all p = true → p (k, v) = true → (Sparse.insert l k v).all p = true := by
    intro l hl hkv
    induction l with
    | nil => simp [Sparse.insert, hkv]
    | cons e rest ih =>
      simp only [List.all_cons, Bool.and_eq_true] at hl
      unfold Sparse.insert
      split
      · simp only [List.all_cons, Bool.and_eq_true]; exact ⟨hkv, hl.1, hl.2⟩
      · split
        · simp only [List.all_cons, Bool.and_eq_true]; exact ⟨hkv, hl.2⟩
        · simp only [List.all_cons, Bool.and_eq_true]; exact ⟨hl.1, ih hl.2⟩
  unfold Sparse.set Sparse.erase
  split
  · rw [List.all_eq_true] at h ⊢
    intro x hx
    exact h x (List.mem_of_mem_filter hx)
  · next hv => exact hins l h (hp hv)

end Sys2Proof.Machine
end

