-- ==== Sys2Proof/Laws/Memory.lean ====
section
/-! SUPPORT. Memory: what a byte write changes, read after write, and that every write keeps the canonical form (20). -/

namespace Sys2Proof.Machine

theorem Memory.get_set (m : List Host.Cell) (k : Nat) (b : Byte) (j : Nat) :
    Memory.get (Memory.set m k b) j = if j = k then b else Memory.get m j := Sparse.get_set 0 m k b j

theorem Memory.wf_set (m : List Host.Cell) (k : Nat) (b : Byte) (h : Memory.wf m = true) :
    Memory.wf (Memory.set m k b) = true := Sparse.wf_set 0 m k b h

/-! ### Places -/

/-- Where an address leads depends on the kind of cartridge alone. -/
theorem State.place_congr {s t : State} (h : t.cart.collaborator.isSome = s.cart.collaborator.isSome) (a : Word) :
    t.place a = s.place a := by
  unfold State.place; rw [h]

/-- A storage byte leads to a register lane or to its own key. -/
theorem storagePlace_ram {r : Region} {off key : Nat} (h : storagePlace r off = .ram key) :
    key = r.base + off ∧ deviceAt r (off / 2) = none := by
  unfold storagePlace at h
  split at h
  · exact absurd h (by simp)
  · next e => exact ⟨(Place.ram.inj h).symm, e⟩

/-- A key that is neither in the intercepted offsets of IO nor SHADOW's is not shadowed (20 R230). -/
theorem isShadowedKey_false {key : Nat}
    (h1 : 0x04000000 ≤ key → key < 0x04000400 → ioDevice ((key - 0x04000000) / 2) = none)
    (h2 : 0x03000000 ≤ key → (key - 0x03000000) / 2 ≠ 0x3FFC) : isShadowedKey key = false := by
  have hio : Region.base Region.io = 0x04000000 := rfl
  have hsz : Region.size Region.io = 0x400 := rfl
  have hiw : Region.base Region.iwram = 0x03000000 := rfl
  unfold isShadowedKey
  rw [Bool.or_eq_false_iff]
  constructor
  · by_cases c : 0x04000000 ≤ key ∧ key < 0x04000400
    · rw [hio, h1 c.1 c.2]; simp
    · rw [Bool.and_eq_false_iff]; left
      simp [hio, hsz]; omega
  · by_cases c : 0x03000000 ≤ key
    · have := h2 c; simp [hiw, this]
    · simp [hiw, c]

/-- A byte of `State.mem` that a store can change is no flat byte behind an intercepted register. -/
theorem place_ram_unshadowed {s : State} {a : Word} {key : Nat} (h : s.place a = .ram key) :
    isShadowedKey key = false := by
  have hsize : ∀ r : Region, 0 < r.size := by intro r; cases r <;> decide
  have hoff : offsetOf a < (regionOf a).size := Nat.mod_lt _ (hsize _)
  unfold State.place placeOf at h
  split at h
  · exact absurd h (by simp)
  · exact absurd h (by simp)
  · split at h
    · exact absurd h (by simp)
    · unfold cartPlace at h
      split at h
      · exact absurd h (by simp)
      · split at h
        · have hk := Place.ram.inj h
          have hb : sramBase = 0x0E000000 := rfl
          have hlt : (a &&& 0xFFFF).toNat ≤ 0xFFFF := by
            rw [BitVec.toNat_and]; exact Nat.and_le_right
          apply isShadowedKey_false <;> (intros; omega)
        · exact absurd h (by simp)
  all_goals
    rename_i hr
    obtain ⟨hk, hd⟩ := storagePlace_ram h
    rw [hr] at hoff
    simp only [Region.size] at hoff
    simp only [Region.base] at hk
    simp only [deviceAt, ite_eq_right_iff, reduceCtorEq, imp_false] at hd
    apply isShadowedKey_false
  all_goals intros
  all_goals first
    | omega
    | (rw [show (key - 0x04000000) / 2 = offsetOf a / 2 by omega]; exact hd)

/-! ### What a write changes -/

/-- What memory, the devices and the cartridge may become by a write: nothing else of the state is touched. -/
structure OnlyUnits (s t : State) : Prop where
  regs : t.regs = s.regs
  pc : t.pc = s.pc
  cpsr : t.cpsr = s.cpsr
  spsr : t.spsr = s.spsr
  halted : t.halted = s.halted
  stopped : t.stopped = s.stopped
  faulted : t.faulted = s.faulted
  waitKind : t.waitKind = s.waitKind
  waitMask : t.waitMask = s.waitMask
  cycleCount : t.cycleCount = s.cycleCount
  instrCount : t.instrCount = s.instrCount
  params : t.params = s.params
  pendingCycles : t.pendingCycles = s.pendingCycles
  log : t.log = s.log
  freeIdx : t.freeIdx = s.freeIdx
  callback : t.callback = s.callback
  delivered : t.delivered = s.delivered
  line : t.ppu.line = s.ppu.line
  lineCycle : t.ppu.lineCycle = s.ppu.lineCycle
  hblankDone : t.ppu.hblankDone = s.ppu.hblankDone
  frameReady : t.ppu.frameReady = s.ppu.frameReady
  fb : t.ppu.fb = s.ppu.fb
  vblank : t.ppu.dispstat.vblank = s.ppu.dispstat.vblank
  hblank : t.ppu.dispstat.hblank = s.ppu.dispstat.hblank
  vmatch : t.ppu.dispstat.vmatch = s.ppu.dispstat.vmatch
  romLength : t.cart.romLength = s.cart.romLength
  external : t.cart.collaborator.isSome = s.cart.collaborator.isSome

theorem OnlyUnits.refl (s : State) : OnlyUnits s s := by constructor <;> rfl

theorem OnlyUnits.trans {s t u : State} (h : OnlyUnits s t) (k : OnlyUnits t u) : OnlyUnits s u := by
  constructor
  · exact k.regs.trans h.regs
  · exact k.pc.trans h.pc
  · exact k.cpsr.trans h.cpsr
  · exact k.spsr.trans h.spsr
  · exact k.halted.trans h.halted
  · exact k.stopped.trans h.stopped
  · exact k.faulted.trans h.faulted
  · exact k.waitKind.trans h.waitKind
  · exact k.waitMask.trans h.waitMask
  · exact k.cycleCount.trans h.cycleCount
  · exact k.instrCount.trans h.instrCount
  · exact k.params.trans h.params
  · exact k.pendingCycles.trans h.pendingCycles
  · exact k.log.trans h.log
  · exact k.freeIdx.trans h.freeIdx
  · exact k.callback.trans h.callback
  · exact k.delivered.trans h.delivered
  · exact k.line.trans h.line
  · exact k.lineCycle.trans h.lineCycle
  · exact k.hblankDone.trans h.hblankDone
  · exact k.frameReady.trans h.frameReady
  · exact k.fb.trans h.fb
  · exact k.vblank.trans h.vblank
  · exact k.hblank.trans h.hblank
  · exact k.vmatch.trans h.vmatch
  · exact k.romLength.trans h.romLength
  · exact k.external.trans h.external

theorem State.devWrite_only (s : State) (r : DevReg) (v : Half) : OnlyUnits s (s.devWrite r v) := by
  cases r <;> constructor <;> rfl

/-- A register write reaches no storage and no cartridge. -/
theorem State.devWrite_mem (s : State) (r : DevReg) (v : Half) :
    (s.devWrite r v).mem = s.mem ∧ (s.devWrite r v).cart = s.cart := by
  cases r <;> exact ⟨rfl, rfl⟩

theorem State.write8_only (s : State) (a : Word) (b : Byte) : OnlyUnits s (s.write8 a b) := by
  unfold State.write8
  split
  · exact OnlyUnits.refl s
  · exact OnlyUnits.refl s
  · exact State.devWrite_only s _ _
  · constructor <;> rfl
  · exact OnlyUnits.refl s
  · exact OnlyUnits.refl s
  · constructor <;> first | rfl | simp

theorem State.memWrite_only (s : State) (a : Word) (w : Width) (v : Word) : OnlyUnits s (s.memWrite a w v) := by
  cases w <;> simp only [State.memWrite]
  · exact State.write8_only _ _ _
  · exact (State.write8_only _ _ _).trans (State.write8_only _ _ _)
  · exact (((State.write8_only _ _ _).trans (State.write8_only _ _ _)).trans (State.write8_only _ _ _)).trans
      (State.write8_only _ _ _)

theorem State.storeWords_only (vs : List Word) : ∀ (s : State) (a : Word), OnlyUnits s (s.storeWords a vs) := by
  induction vs with
  | nil => intro s a; exact OnlyUnits.refl s
  | cons v rest ih => intro s a; exact (State.memWrite_only s a .b4 v).trans (ih _ _)

/-! ### The canonical form -/

/-- The memory invariant: the canonical form, and nothing listed behind an intercepted register. -/
def Memory.sound (m : List Host.Cell) : Prop := Memory.wf m = true ∧ Memory.unshadowed m = true

theorem Memory.sound_set {m : List Host.Cell} {key : Nat} (b : Byte) (hk : isShadowedKey key = false)
    (h : Memory.sound m) : Memory.sound (Memory.set m key b) :=
  ⟨Memory.wf_set m key b h.1, Sparse.all_set 0 m key b _ h.2 fun _ => by simp [hk]⟩

theorem Memory.sound_clear {m : List Host.Cell} (lo hi : Nat) (h : Memory.sound m) :
    Memory.sound (Sparse.clear m lo hi) := by
  refine ⟨Sparse.wf_clear 0 m lo hi h.1, ?_⟩
  have h2 := h.2
  unfold Memory.unshadowed at h2 ⊢
  rw [List.all_eq_true] at h2 ⊢
  exact fun x hx => h2 x (List.mem_of_mem_filter hx)

theorem State.write8_sound (s : State) (a : Word) (b : Byte) (h : Memory.sound s.mem) :
    Memory.sound (s.write8 a b).mem := by
  unfold State.write8
  split
  · exact h
  · exact h
  · rw [State.devWriteByte, (State.devWrite_mem s _ _).1]; exact h
  · next key hk => exact Memory.sound_set b (place_ram_unshadowed hk) h
  · exact h
  · exact h
  · exact h

theorem State.memWrite_sound (s : State) (a : Word) (w : Width) (v : Word) (h : Memory.sound s.mem) :
    Memory.sound (s.memWrite a w v).mem := by
  cases w <;> simp only [State.memWrite]
  · exact State.write8_sound _ _ _ h
  · exact State.write8_sound _ _ _ (State.write8_sound _ _ _ h)
  · exact State.write8_sound _ _ _ (State.write8_sound _ _ _ (State.write8_sound _ _ _ (State.write8_sound _ _ _ h)))

theorem State.storeWords_sound (vs : List Word) :
    ∀ (s : State) (a : Word), Memory.sound s.mem → Memory.sound (s.storeWords a vs).mem := by
  induction vs with
  | nil => intro s a h; exact h
  | cons v rest ih => intro s a h; exact ih _ _ (State.memWrite_sound s a .b4 v h)

/-! ### Reading -/

/-- A read depends on memory, the devices, the cartridge and the parameters alone. -/
theorem State.read8_congr {s t : State} (hm : t.mem = s.mem) (hi : t.ic = s.ic) (hp : t.ppu = s.ppu)
    (hc : t.cart = s.cart) (hq : t.params = s.params) (a : Word) : t.read8 a = s.read8 a := by
  have hpl : t.place a = s.place a := State.place_congr (by rw [hc]) a
  have hd : ∀ r, t.devRead r = s.devRead r := by intro r; cases r <;> simp [State.devRead, hi, hp]
  unfold State.read8 State.unmappedValue State.romByte
  rw [hpl, hm, hc, hq]
  split <;> simp [hd]

theorem State.memRead_congr {s t : State} (hm : t.mem = s.mem) (hi : t.ic = s.ic) (hp : t.ppu = s.ppu)
    (hc : t.cart = s.cart) (hq : t.params = s.params) (a : Word) (w : Width) : t.memRead a w = s.memRead a w := by
  unfold State.memRead State.unmappedValue
  simp only [hq, State.read8_congr hm hi hp hc hq]

/-- A read of two or four bytes is one at the aligned address, in every region (00 R11; 20 R211, R240). -/
theorem State.memRead_alignTo (s : State) (a : Word) (w : Width) : s.memRead (alignTo w a) w = s.memRead a w := by
  have e2 : align2 (align2 a) = align2 a := by unfold align2; ext i; simp
  have e4 : align4 (align4 a) = align4 a := by unfold align4; ext i; simp
  have top : ∀ m : Word, m.extractLsb' 24 8 = BitVec.allOnes 8 → regionOf (a &&& m) = regionOf a := by
    intro m hm
    unfold regionOf
    rw [BitVec.extractLsb'_and, hm, BitVec.and_allOnes]
  have r2 : regionOf (align2 a) = regionOf a := top _ (by decide)
  have r4 : regionOf (align4 a) = regionOf a := top _ (by decide)
  cases w
  · rfl
  · simp only [alignTo, State.memRead, r2, e2]
  · simp only [alignTo, State.memRead, r4, e4]

end Sys2Proof.Machine
end

