-- ==== Sys2Proof/Laws/Effects.lean ====
section
/-! SUPPORT. What every instruction keeps: the host's side, the picture processor's inner state, the canonical form of memory and the
sense of the wait state. Said once for each shared operation, then for all of `exec`. -/

namespace Sys2Proof.Machine

/-- If the outcome is a next state, `P` holds of it. -/
def Ends (P : State → Prop) (o : Host.Outcome State Fault Refusal) : Prop := ∀ t, o = .next t → P t

theorem Ends.next {P : State → Prop} {t : State} (h : P t) : Ends P (.next t) := by
  intro u e; cases e; exact h

theorem Ends.fault {P : State → Prop} {f : Fault} : Ends P (.fault f) := by intro u e; cases e

theorem Ends.refused {P : State → Prop} {r : Refusal} : Ends P (.refused r) := by intro u e; cases e

theorem Ends.ite {P : State → Prop} {c : Prop} [Decidable c] {a b : Host.Outcome State Fault Refusal}
    (ha : c → Ends P a) (hb : ¬c → Ends P b) : Ends P (if c then a else b) := by
  split
  · exact ha ‹_›
  · exact hb ‹_›

/-- What an instruction keeps, whichever it is. -/
structure Keeps (s t : State) : Prop where
  faulted : t.faulted = s.faulted
  cycleCount : t.cycleCount = s.cycleCount
  instrCount : t.instrCount = s.instrCount
  params : t.params = s.params
  pendingCycles : t.pendingCycles = s.pendingCycles
  callback : t.callback = s.callback
  delivered : t.delivered = s.delivered
  line : t.ppu.line = s.ppu.line
  lineCycle : t.ppu.lineCycle = s.ppu.lineCycle
  hblankDone : t.ppu.hblankDone = s.ppu.hblankDone
  frameReady : t.ppu.frameReady = s.ppu.frameReady
  fb : t.ppu.fb = s.ppu.fb
  vblank : t.ppu.dispstat.vblank = s.ppu.dispstat.vblank
  hblank : t.ppu.dispstat.hblank = s.ppu.dispstat.hblank
  vmatch : t.ppu.dispstat.vmatch = s.ppu.dispstat.vmatch
  romLength : t.cart.romLength = s.cart.romLength
  external : t.cart.collaborator.isSome = s.cart.collaborator.isSome
  sound : Memory.sound s.mem → Memory.sound t.mem
  wait : s.waitOk = true → t.waitOk = true

theorem Keeps.refl (s : State) : Keeps s s := by constructor <;> first | rfl | exact id

theorem Keeps.trans {s t u : State} (h : Keeps s t) (k : Keeps t u) : Keeps s u := by
  constructor
  · exact k.faulted.trans h.faulted
  · exact k.cycleCount.trans h.cycleCount
  · exact k.instrCount.trans h.instrCount
  · exact k.params.trans h.params
  · exact k.pendingCycles.trans h.pendingCycles
  · exact k.callback.trans h.callback
  · exact k.delivered.trans h.delivered
  · exact k.line.trans h.line
  · exact k.lineCycle.trans h.lineCycle
  · exact k.hblankDone.trans h.hblankDone
  · exact k.frameReady.trans h.frameReady
  · exact k.fb.trans h.fb
  · exact k.vblank.trans h.vblank
  · exact k.hblank.trans h.hblank
  · exact k.vmatch.trans h.vmatch
  · exact k.romLength.trans h.romLength
  · exact k.external.trans h.external
  · exact fun x => k.sound (h.sound x)
  · exact fun x => k.wait (h.wait x)

/-- A change of registers, PC, status, SPSRs, free-value counter and log alone. -/
theorem Keeps.of_core {s t : State} (h : t = { s with regs := t.regs, pc := t.pc, cpsr := t.cpsr, spsr := t.spsr, log := t.log, freeIdx := t.freeIdx }) :
    Keeps s t := by
  rw [h]; constructor <;> first | rfl | exact id

theorem OnlyUnits.keeps {s t : State} (h : OnlyUnits s t) (m : Memory.sound s.mem → Memory.sound t.mem) : Keeps s t where
  faulted := h.faulted
  cycleCount := h.cycleCount
  instrCount := h.instrCount
  params := h.params
  pendingCycles := h.pendingCycles
  callback := h.callback
  delivered := h.delivered
  line := h.line
  lineCycle := h.lineCycle
  hblankDone := h.hblankDone
  frameReady := h.frameReady
  fb := h.fb
  vblank := h.vblank
  hblank := h.hblank
  vmatch := h.vmatch
  romLength := h.romLength
  external := h.external
  sound := m
  wait := by unfold State.waitOk; rw [h.halted, h.waitKind]; exact id

namespace Keeps

variable {s t : State}

theorem setGreg (h : Keeps s t) (g : GReg) (v : Word) : Keeps s (t.setGreg g v) := h.trans (.of_core rfl)
theorem setPc (h : Keeps s t) (v : Word) : Keeps s (t.setPc v) := h.trans (.of_core rfl)
theorem advancePc (h : Keeps s t) (v : Word) : Keeps s (t.advancePc v) := h.trans (.of_core rfl)
theorem setCpsr (h : Keeps s t) (c : Cpsr) : Keeps s (t.setCpsr c) := h.trans (.of_core rfl)
theorem setSpsr (h : Keeps s t) (e : Exc) (p : Psr) : Keeps s (t.setSpsr e p) := h.trans (.of_core rfl)
theorem drawn (h : Keeps s t) : Keeps s t.drawn := h.trans (.of_core rfl)
theorem report (h : Keeps s t) (e : Event) : Keeps s (t.report e) := h.trans (.of_core rfl)

theorem setRegOf (h : Keeps s t) (m : Mode) (n : Reg) (v : Word) : Keeps s (t.setRegOf m n v) := by
  unfold State.setRegOf; split
  · exact h.setGreg _ _
  · exact h

theorem setReg (h : Keeps s t) (n : Reg) (v : Word) : Keeps s (t.setReg n v) := h.setRegOf _ _ _

theorem writeArm (h : Keeps s t) (n : Reg) (v : Word) : Keeps s (t.writeArm n v) := by
  unfold State.writeArm; split
  · exact (h.setGreg _ _).advancePc _
  · exact h.setPc _

theorem writeThumb (h : Keeps s t) (n : Reg) (v : Word) : Keeps s (t.writeThumb n v) := by
  unfold State.writeThumb; split
  · exact (h.setGreg _ _).advancePc _
  · exact h.setPc _

theorem setFlags (h : Keeps s t) (r : AluOut) : Keeps s (t.setFlags r) := h.setCpsr _

theorem memWrite (h : Keeps s t) (a : Word) (w : Width) (v : Word) : Keeps s (t.memWrite a w v) :=
  h.trans ((State.memWrite_only t a w v).keeps (State.memWrite_sound t a w v))

theorem storeWords (h : Keeps s t) (a : Word) (vs : List Word) : Keeps s (t.storeWords a vs) :=
  h.trans ((State.storeWords_only vs t a).keeps (State.storeWords_sound vs t a))

theorem loadRegs (rs : List Reg) : ∀ {t : State}, Keeps s t → ∀ (m : Mode) (a : Word), Keeps s (t.loadRegs m a rs) := by
  induction rs with
  | nil => intro t h m a; exact h
  | cons r rest ih => intro t h m a; exact ih (h.setRegOf _ _ _) _ _

theorem ite {c : Prop} [Decidable c] {a b : State} (ha : Keeps s a) (hb : Keeps s b) : Keeps s (if c then a else b) := by
  split <;> assumption

theorem takeException (h : Keeps s t) (e : Exc) (r v : Word) : Keeps s (t.takeException e r v) :=
  (((h.setSpsr _ _).setCpsr _).setGreg _ _).setPc _

theorem anomaly (h : Keeps s t) (l w : Word) : Keeps s (t.anomaly l w) := (h.report _).advancePc _

end Keeps

/-! ### Shared operations -/

theorem Keeps.armIf {s : State} {c : Cond} {o : Host.Outcome State Fault Refusal} (h : Ends (Keeps s) o) :
    Ends (Keeps s) (armIf c s o) := Ends.ite (fun _ => h) fun _ => Ends.next ((Keeps.refl s).advancePc _)

theorem Keeps.psrRestore {s t : State} (h : Keeps s t) (v : Word) : Ends (Keeps s) (t.psrRestore v) := by
  unfold State.psrRestore
  split
  · exact Ends.fault
  · split
    · exact Ends.fault
    · exact Ends.next ((h.setCpsr _).setPc _)

theorem Keeps.dataProc (s : State) (op : DpOp) (sf : Bool) (rn rd : Reg) (o : Word × Bool) :
    Ends (Keeps s) (dataProc op sf rn rd o s) := by
  unfold Machine.dataProc dpFinish
  refine Ends.ite (fun _ => Ends.next (((Keeps.refl s).setFlags _).advancePc _)) fun _ => Ends.ite (fun _ => ?_) fun _ => ?_
  · exact (Keeps.refl s).psrRestore _
  · exact Ends.next (Keeps.writeArm (Keeps.ite ((Keeps.refl s).setFlags _) (Keeps.refl s)) _ _)

theorem Keeps.dpImm (s : State) (op : DpOp) (sf : Bool) (rn rd : Reg) (r : BitVec 4) (i : BitVec 8) :
    Ends (Keeps s) (dpImm op sf rn rd r i s) := Keeps.dataProc _ _ _ _ _ _

theorem Keeps.dpRsi (s : State) (op : DpOp) (sf : Bool) (rn rd : Reg) (n : BitVec 5) (h : ShiftType) (m : Reg) :
    Ends (Keeps s) (dpRsi op sf rn rd n h m s) := Keeps.dataProc _ _ _ _ _ _

theorem Keeps.dpRsr (s : State) (op : DpOp) (sf : Bool) (rn rd rs : Reg) (h : ShiftType) (m : Reg) :
    Ends (Keeps s) (dpRsr op sf rn rd rs h m s) := Ends.ite (fun _ => Ends.fault) fun _ => Keeps.dataProc _ _ _ _ _ _

theorem Keeps.msr (s : State) (r : Bool) (mask : BitVec 4) (v : Word) : Ends (Keeps s) (msr r mask v s) := by
  unfold Machine.msr
  refine Ends.ite (fun _ => ?_) fun _ => ?_
  · unfold msrSpsr; split
    · exact Ends.fault
    · exact Ends.next (((Keeps.refl s).setSpsr _ _).advancePc _)
  · unfold msrCpsr
    refine Ends.ite (fun _ => Ends.ite (fun _ => Ends.fault) fun _ => ?_) fun _ => ?_
    · split
      · exact Ends.fault
      · exact Ends.next (((Keeps.refl s).setCpsr _).advancePc _)
    · exact Ends.next (((Keeps.refl s).setCpsr _).advancePc _)

theorem Keeps.mulShort (s : State) (sf : Bool) (rd rs rm : Reg) (u : Bool) (v : Word) :
    Ends (Keeps s) (mulShort sf rd rs rm u v s) := by
  unfold Machine.mulShort mulFinish
  refine Ends.ite (fun _ => Ends.fault) fun _ => Ends.ite (fun _ => Ends.fault) fun _ => Ends.next ?_
  exact Keeps.advancePc (Keeps.setReg (Keeps.ite ((Keeps.refl s).setCpsr _).drawn (Keeps.refl s)) _ _) _

theorem Keeps.mulLong (s : State) (sf : Bool) (hi lo rs rm : Reg) (p : BitVec 64) :
    Ends (Keeps s) (mulLong sf hi lo rs rm p s) := by
  unfold Machine.mulLong mullFinish
  refine Ends.ite (fun _ => Ends.fault) fun _ => Ends.ite (fun _ => Ends.fault) fun _ => Ends.next ?_
  exact Keeps.advancePc (Keeps.setReg (Keeps.setReg (Keeps.ite ((Keeps.refl s).setCpsr _).drawn (Keeps.refl s)) _ _) _ _) _

theorem Keeps.writeBack {s t : State} (h : Keeps s t) (wb : Bool) (rn : Reg) (v : Word) : Keeps s (writeBack t wb rn v) :=
  Keeps.ite (h.setReg _ _) h

theorem Keeps.storeDrawn {s t : State} (h : Keeps s t) (wb : Bool) (rn rd : Reg) : Keeps s (storeDrawn t wb rn rd) :=
  Keeps.ite h.drawn h

theorem Keeps.loadSingle (s : State) (b p u w : Bool) (rn rd : Reg) (off : Offset) :
    Ends (Keeps s) (loadSingle b p u w rn rd off s) := by
  unfold Machine.loadSingle; split
  · exact Ends.fault
  · exact Ends.next (((Keeps.refl s).writeBack _ _ _).writeArm _ _)

theorem Keeps.storeSingle (s : State) (b p u w : Bool) (rn rd : Reg) (off : Offset) :
    Ends (Keeps s) (storeSingle b p u w rn rd off s) := by
  unfold Machine.storeSingle; split
  · exact Ends.fault
  · exact Ends.next (((((Keeps.refl s).memWrite _ _ _).storeDrawn _ _ _).writeBack _ _ _).advancePc _)

theorem Keeps.loadHalf (s : State) (k : HalfLoad) (p u w : Bool) (rn rd : Reg) (off : HalfOffset) :
    Ends (Keeps s) (loadHalf k p u w rn rd off s) := by
  unfold Machine.loadHalf; simp only []; split
  · exact Ends.fault
  · exact Ends.next (((Keeps.refl s).writeBack _ _ _).writeArm _ _)

theorem Keeps.storeHalf (s : State) (p u w : Bool) (rn rd : Reg) (off : HalfOffset) :
    Ends (Keeps s) (storeHalf p u w rn rd off s) := by
  unfold Machine.storeHalf; simp only []; split
  · exact Ends.fault
  · exact Ends.next (((((Keeps.refl s).memWrite _ _ _).storeDrawn _ _ _).writeBack _ _ _).advancePc _)

theorem Keeps.swap (s : State) (b : Bool) (rn rd rm : Reg) : Ends (Keeps s) (swap b rn rd rm s) := by
  unfold Machine.swap; split
  · exact Ends.fault
  · exact Ends.next ((((Keeps.refl s).memWrite _ _ _).setReg _ _).advancePc _)

theorem Keeps.ldmLoaded (s : State) (p u sb w : Bool) (rn : Reg) (list : BitVec 16) :
    Keeps s (ldmLoaded p u sb w rn list s) := Keeps.loadRegs _ (Keeps.ite ((Keeps.refl s).setReg _ _) (Keeps.refl s)) _ _

theorem Keeps.ldm (s : State) (p u sb w : Bool) (rn : Reg) (list : BitVec 16) :
    Ends (Keeps s) (ldm p u sb w rn list s) := by
  unfold Machine.ldm; split
  · exact Ends.fault
  · refine Ends.ite (fun _ => Ends.ite (fun _ => (Keeps.ldmLoaded s p u sb w rn list).psrRestore _) fun _ => ?_) fun _ => ?_
    · exact Ends.next ((Keeps.ldmLoaded s p u sb w rn list).setPc _)
    · exact Ends.next ((Keeps.ldmLoaded s p u sb w rn list).advancePc _)

theorem Keeps.stm (s : State) (p u sb w : Bool) (rn : Reg) (list : BitVec 16) :
    Ends (Keeps s) (stm p u sb w rn list s) := by
  unfold Machine.stm stmStored; split
  · exact Ends.fault
  · refine Ends.next (Keeps.advancePc (Keeps.ite (Keeps.setReg ?_ _ _) ?_) _) <;>
      exact Keeps.ite ((Keeps.refl s).storeWords _ _).drawn ((Keeps.refl s).storeWords _ _)

theorem Keeps.branchExchange (s : State) (v : Word) : Ends (Keeps s) (branchExchange s v) := by
  unfold Machine.branchExchange
  exact Ends.ite (fun _ => Ends.next (((Keeps.refl s).setCpsr _).setPc _)) fun _ =>
    Ends.ite (fun _ => Ends.fault) fun _ => Ends.next (((Keeps.refl s).setCpsr _).setPc _)

theorem Keeps.armAnomaly (s : State) (w : Word) : Ends (Keeps s) (armAnomaly w s) :=
  Keeps.armIf (Ends.next ((Keeps.refl s).anomaly _ _))

theorem Keeps.thumbAlu (s : State) (op : DpOp) (rd : LoReg) (a b : Word) (c : Bool) :
    Ends (Keeps s) (thumbAlu op rd a b c s) := by
  unfold Machine.thumbAlu lowResult flagResult
  exact Ends.ite (fun _ => Ends.next (((Keeps.refl s).setFlags _).advancePc _)) fun _ =>
    Ends.next ((((Keeps.refl s).setFlags _).setGreg _ _).advancePc _)

theorem Keeps.thumbShift (s : State) (rd : LoReg) (r : Word × Bool) : Ends (Keeps s) (thumbShift rd r s) :=
  Ends.next ((((Keeps.refl s).setFlags _).setGreg _ _).advancePc _)

theorem Keeps.thumbLoaded (s : State) (rd : LoReg) (v : Word) : Ends (Keeps s) (thumbLoaded rd v s) :=
  Ends.next (((Keeps.refl s).setGreg _ _).advancePc _)

theorem Keeps.thumbStored (s : State) (a : Word) (w : Width) (v : Word) : Ends (Keeps s) (thumbStored a w v s) :=
  Ends.next (((Keeps.refl s).memWrite _ _ _).advancePc _)

theorem Keeps.thumbLoadHalf (s : State) (g : Bool) (rd : LoReg) (a : Word) : Ends (Keeps s) (thumbLoadHalf g rd a s) :=
  Ends.ite (fun _ => Ends.fault) fun _ => Keeps.thumbLoaded _ _ _

theorem Keeps.thumbStoreHalf (s : State) (rd : LoReg) (a : Word) : Ends (Keeps s) (thumbStoreHalf rd a s) :=
  Ends.ite (fun _ => Ends.fault) fun _ => Keeps.thumbStored _ _ _ _

/-! ### System calls -/

theorem Keeps.zeroBytes (k : Nat) : ∀ (a : Word) {s t : State}, Keeps s t → Keeps s (zeroBytes k a t) := by
  induction k with
  | zero => intro a s t h; exact h
  | succ k ih => intro a s t h; exact ih _ (h.memWrite _ _ _)

theorem Keeps.zeroRegs (gs : List GReg) : ∀ {s t : State}, Keeps s t → Keeps s (zeroRegs gs t) := by
  induction gs with
  | nil => intro s t h; exact h
  | cons g rest ih => intro s t h; exact ih (h.setGreg _ _)

theorem Keeps.softReset (s : State) : Keeps s (softReset s) := by
  unfold Machine.softReset
  refine Keeps.setPc (Keeps.zeroRegs _ ?_) _
  exact (((((((((Keeps.zeroBytes _ _ (Keeps.refl s)).setGreg _ _).setGreg _ _).setSpsr _ _).setGreg _ _).setGreg _ _).setSpsr _ _).setCpsr
    _).setGreg _ _).setGreg _ _

theorem Keeps.clearIf {s t : State} (h : Keeps s t) (b : Bool) (r : Region) (lo hi : Nat) :
    Keeps s (clearIf b r lo hi t) := by
  refine Keeps.ite (h.trans (OnlyUnits.keeps ?_ fun m => Memory.sound_clear _ _ m)) h
  constructor <;> rfl

theorem Keeps.registerRamReset (s : State) : Keeps s (registerRamReset s) :=
  (((((Keeps.refl s).clearIf _ _ _ _).clearIf _ _ _ _).clearIf _ _ _ _).clearIf _ _ _ _).clearIf _ _ _ _

theorem Keeps.haltCall (s : State) : Keeps s (haltCall s) := by
  constructor <;> first | rfl | exact id | exact fun _ => rfl

theorem Keeps.stopCall (s : State) : Keeps s (stopCall s) := by
  constructor <;> first | rfl | exact id

theorem Keeps.intrWait (s : State) (d : Bool) (m : Half) : Keeps s (intrWait d m s) := by
  constructor <;> first | rfl | exact id | exact fun _ => rfl

theorem Keeps.divOutputs (s : State) (n d : Int) : Keeps s (divOutputs n d s) :=
  (((Keeps.refl s).setGreg _ _).setGreg _ _).setGreg _ _

theorem Keeps.fillUnits (n : Nat) (w : Width) (v : Word) :
    ∀ (dst : Word) {s t : State}, Keeps s t → Keeps s (fillUnits n w dst v t) := by
  induction n with
  | zero => intro dst s t h; exact h
  | succ n ih => intro dst s t h; exact ih _ (h.memWrite _ _ _)

theorem Keeps.copyUnits (n : Nat) (w : Width) :
    ∀ (src dst : Word) {s t : State}, Keeps s t → Keeps s (copyUnits n w src dst t) := by
  induction n with
  | zero => intro src dst s t h; exact h
  | succ n ih => intro src dst s t h; exact ih _ _ (h.memWrite _ _ _)

theorem Keeps.moveUnits (s : State) (f : Bool) (n : Nat) (w : Width) (a b : Word) : Keeps s (moveUnits f n w a b s) :=
  Keeps.ite (Keeps.fillUnits _ _ _ _ (Keeps.refl s)) (Keeps.copyUnits _ _ _ _ (Keeps.refl s))

theorem Keeps.lzCopy (len : Nat) (dst : Word) (size disp : Nat) :
    ∀ {s : State} (x : LzPos), Keeps s x.st → Keeps s (lzCopy len dst size disp x).st := by
  induction len with
  | zero => intro s x h; exact h
  | succ len ih =>
    intro s x h
    unfold Machine.lzCopy
    split
    · refine ih _ ?_
      simp only []
      exact Keeps.memWrite h _ _ _
    · exact h

theorem Keeps.lzToken (ref : Bool) (dst : Word) (size : Nat) {s : State} (x : LzPos) (h : Keeps s x.st) :
    Keeps s (lzToken ref dst size x).st := by
  unfold Machine.lzToken
  split
  · simp only []
    split
    · exact h
    · exact Keeps.lzCopy _ _ _ _ { x with p := x.p + 2 } h
  · simp only []
    exact Keeps.memWrite h _ _ _

theorem Keeps.lzTokens (k : Nat) (flags dst : Word) (size : Nat) :
    ∀ {s : State} (x : LzPos), Keeps s x.st → Keeps s (lzTokens k flags dst size x).st := by
  induction k with
  | zero => intro s x h; exact h
  | succ k ih =>
    intro s x h
    unfold Machine.lzTokens
    split
    · exact h
    · exact ih _ (Keeps.lzToken _ _ _ _ h)

theorem Keeps.lzStream (fuel : Nat) (dst : Word) (size : Nat) :
    ∀ {s : State} (x : LzPos), Keeps s x.st → Keeps s (lzStream fuel dst size x).st := by
  induction fuel with
  | zero => intro s x h; exact h
  | succ fuel ih =>
    intro s x h
    unfold Machine.lzStream
    split
    · exact h
    · exact ih _ (Keeps.lzTokens _ _ _ _ { x with p := x.p + 1 } h)

theorem Keeps.lz77 (s : State) : Keeps s (lz77 s) := by
  unfold Machine.lz77
  split
  · exact Keeps.lzStream _ _ _ _ (Keeps.refl s)
  · exact Keeps.refl s

/-- Every routine keeps what an instruction keeps. -/
theorem Keeps.hleRoutine (s t : State) (n : Byte) (h : hleRoutine n s = some t) : Keeps s t := by
  unfold Machine.hleRoutine at h
  split at h <;> cases h
  · exact Keeps.registerRamReset s
  · exact Keeps.haltCall s
  · exact Keeps.stopCall s
  · exact Keeps.intrWait s _ _
  · exact Keeps.intrWait s _ _
  · exact Keeps.divOutputs s _ _
  · exact Keeps.divOutputs s _ _
  · exact Keeps.moveUnits s _ _ _ _ _
  · exact Keeps.moveUnits s _ _ _ _ _
  · exact (Keeps.refl s).setGreg _ _
  · exact Keeps.lz77 s

theorem Keeps.softwareInterrupt (s : State) (n : Byte) (len : Word) : Ends (Keeps s) (softwareInterrupt n len s) := by
  unfold Machine.softwareInterrupt
  refine Ends.ite (fun _ => Ends.next ?_) fun _ => Ends.next ((Keeps.refl s).takeException _ _ _)
  unfold Machine.callHle
  split
  · exact Keeps.softReset s
  · split
    · next t h => exact (Keeps.hleRoutine s t n h).advancePc _
    · exact ((Keeps.refl s).report _).advancePc _

end Sys2Proof.Machine
end

