-- ==== Sys2Proof/Laws/Exec.lean ====
section
/-! SUPPORT. What every instruction keeps, and that none is refused. -/

namespace Sys2Proof.Machine

theorem Keeps.mrs (s : State) (r : Bool) (rd : Reg) :
    Ends (Keeps s) (if rd = 15 then .fault .mrsR15 else
      match mrsValue r s with
      | none => .fault .noSpsr
      | some v => .next ((s.setReg rd v).advancePc 4)) := by
  refine Ends.ite (fun _ => Ends.fault) fun _ => ?_
  split
  · exact Ends.fault
  · exact Ends.next (((Keeps.refl s).setReg _ _).advancePc _)

theorem Keeps.popLoaded (s : State) (r : Bool) (list : BitVec 8) : Keeps s (popLoaded r list s) :=
  (Keeps.loadRegs _ (Keeps.refl s) _ _).setReg _ _

theorem Keeps.tPop (s : State) (r : Bool) (list : BitVec 8) : Ends (Keeps s) (execTPop r list s) :=
  Ends.ite (fun _ => Ends.fault) fun _ =>
    Ends.ite (fun _ => Ends.next ((Keeps.popLoaded s r list).setPc _)) fun _ => Ends.next ((Keeps.popLoaded s r list).advancePc _)

theorem Keeps.tLdmia (s : State) (rb : LoReg) (list : BitVec 8) : Ends (Keeps s) (execTLdmia rb list s) :=
  Ends.ite (fun _ => Ends.fault) fun _ =>
    Ends.ite (fun _ => Ends.next ((Keeps.loadRegs _ (Keeps.refl s) _ _).advancePc _)) fun _ =>
      Ends.next (((Keeps.loadRegs _ (Keeps.refl s) _ _).setGreg _ _).advancePc _)

/-- Every instruction keeps the host's side, the picture processor's inner state, the canonical form of memory and the sense of
the wait state. -/
theorem exec_keeps (i : Instr) (s : State) : Ends (Keeps s) (exec i s) := by
  cases i with
  | mul => exact Keeps.armIf (Keeps.mulShort s _ _ _ _ _ _)
  | mla => exact Keeps.armIf (Keeps.mulShort s _ _ _ _ _ _)
  | umull => exact Keeps.armIf (Keeps.mulLong s _ _ _ _ _ _)
  | umlal => exact Keeps.armIf (Keeps.mulLong s _ _ _ _ _ _)
  | smull => exact Keeps.armIf (Keeps.mulLong s _ _ _ _ _ _)
  | smlal => exact Keeps.armIf (Keeps.mulLong s _ _ _ _ _ _)
  | swp => exact Keeps.armIf (Keeps.swap s _ _ _ _)
  | swpb => exact Keeps.armIf (Keeps.swap s _ _ _ _)
  | undMulSwap => exact Keeps.armAnomaly s _
  | ldrh => exact Keeps.armIf (Keeps.loadHalf s _ _ _ _ _ _ _)
  | ldrsb => exact Keeps.armIf (Keeps.loadHalf s _ _ _ _ _ _ _)
  | ldrsh => exact Keeps.armIf (Keeps.loadHalf s _ _ _ _ _ _ _)
  | strh => exact Keeps.armIf (Keeps.storeHalf s _ _ _ _ _ _)
  | undHalfword => exact Keeps.armAnomaly s _
  | mrs => exact Keeps.armIf (Keeps.mrs s _ _)
  | msrReg => exact Keeps.armIf (Ends.ite (fun _ => Ends.fault) fun _ => Keeps.msr s _ _ _)
  | bx => exact Keeps.armIf (Keeps.branchExchange s _)
  | undPsr => exact Keeps.armAnomaly s _
  | msrImm => exact Keeps.armIf (Keeps.msr s _ _ _)
  | undMsrImm => exact Keeps.armAnomaly s _
  | andImm => exact Keeps.armIf (Keeps.dpImm s _ _ _ _ _ _)
  | andRsi => exact Keeps.armIf (Keeps.dpRsi s _ _ _ _ _ _ _)
  | andRsr => exact Keeps.armIf (Keeps.dpRsr s _ _ _ _ _ _ _)
  | eorImm => exact Keeps.armIf (Keeps.dpImm s _ _ _ _ _ _)
  | eorRsi => exact Keeps.armIf (Keeps.dpRsi s _ _ _ _ _ _ _)
  | eorRsr => exact Keeps.armIf (Keeps.dpRsr s _ _ _ _ _ _ _)
  | subImm => exact Keeps.armIf (Keeps.dpImm s _ _ _ _ _ _)
  | subRsi => exact Keeps.armIf (Keeps.dpRsi s _ _ _ _ _ _ _)
  | subRsr => exact Keeps.armIf (Keeps.dpRsr s _ _ _ _ _ _ _)
  | rsbImm => exact Keeps.armIf (Keeps.dpImm s _ _ _ _ _ _)
  | rsbRsi => exact Keeps.armIf (Keeps.dpRsi s _ _ _ _ _ _ _)
  | rsbRsr => exact Keeps.armIf (Keeps.dpRsr s _ _ _ _ _ _ _)
  | addImm => exact Keeps.armIf (Keeps.dpImm s _ _ _ _ _ _)
  | addRsi => exact Keeps.armIf (Keeps.dpRsi s _ _ _ _ _ _ _)
  | addRsr => exact Keeps.armIf (Keeps.dpRsr s _ _ _ _ _ _ _)
  | adcImm => exact Keeps.armIf (Keeps.dpImm s _ _ _ _ _ _)
  | adcRsi => exact Keeps.armIf (Keeps.dpRsi s _ _ _ _ _ _ _)
  | adcRsr => exact Keeps.armIf (Keeps.dpRsr s _ _ _ _ _ _ _)
  | sbcImm => exact Keeps.armIf (Keeps.dpImm s _ _ _ _ _ _)
  | sbcRsi => exact Keeps.armIf (Keeps.dpRsi s _ _ _ _ _ _ _)
  | sbcRsr => exact Keeps.armIf (Keeps.dpRsr s _ _ _ _ _ _ _)
  | rscImm => exact Keeps.armIf (Keeps.dpImm s _ _ _ _ _ _)
  | rscRsi => exact Keeps.armIf (Keeps.dpRsi s _ _ _ _ _ _ _)
  | rscRsr => exact Keeps.armIf (Keeps.dpRsr s _ _ _ _ _ _ _)
  | tstImm => exact Keeps.armIf (Keeps.dpImm s _ _ _ _ _ _)
  | tstRsi => exact Keeps.armIf (Keeps.dpRsi s _ _ _ _ _ _ _)
  | tstRsr => exact Keeps.armIf (Keeps.dpRsr s _ _ _ _ _ _ _)
  | teqImm => exact Keeps.armIf (Keeps.dpImm s _ _ _ _ _ _)
  | teqRsi => exact Keeps.armIf (Keeps.dpRsi s _ _ _ _ _ _ _)
  | teqRsr => exact Keeps.armIf (Keeps.dpRsr s _ _ _ _ _ _ _)
  | cmpImm => exact Keeps.armIf (Keeps.dpImm s _ _ _ _ _ _)
  | cmpRsi => exact Keeps.armIf (Keeps.dpRsi s _ _ _ _ _ _ _)
  | cmpRsr => exact Keeps.armIf (Keeps.dpRsr s _ _ _ _ _ _ _)
  | cmnImm => exact Keeps.armIf (Keeps.dpImm s _ _ _ _ _ _)
  | cmnRsi => exact Keeps.armIf (Keeps.dpRsi s _ _ _ _ _ _ _)
  | cmnRsr => exact Keeps.armIf (Keeps.dpRsr s _ _ _ _ _ _ _)
  | orrImm => exact Keeps.armIf (Keeps.dpImm s _ _ _ _ _ _)
  | orrRsi => exact Keeps.armIf (Keeps.dpRsi s _ _ _ _ _ _ _)
  | orrRsr => exact Keeps.armIf (Keeps.dpRsr s _ _ _ _ _ _ _)
  | movImm => exact Keeps.armIf (Keeps.dpImm s _ _ _ _ _ _)
  | movRsi => exact Keeps.armIf (Keeps.dpRsi s _ _ _ _ _ _ _)
  | movRsr => exact Keeps.armIf (Keeps.dpRsr s _ _ _ _ _ _ _)
  | bicImm => exact Keeps.armIf (Keeps.dpImm s _ _ _ _ _ _)
  | bicRsi => exact Keeps.armIf (Keeps.dpRsi s _ _ _ _ _ _ _)
  | bicRsr => exact Keeps.armIf (Keeps.dpRsr s _ _ _ _ _ _ _)
  | mvnImm => exact Keeps.armIf (Keeps.dpImm s _ _ _ _ _ _)
  | mvnRsi => exact Keeps.armIf (Keeps.dpRsi s _ _ _ _ _ _ _)
  | mvnRsr => exact Keeps.armIf (Keeps.dpRsr s _ _ _ _ _ _ _)
  | und011 => exact Keeps.armAnomaly s _
  | ldrPre => exact Keeps.armIf (Keeps.loadSingle s _ _ _ _ _ _ _)
  | ldrPost => exact Keeps.armIf (Keeps.loadSingle s _ _ _ _ _ _ _)
  | ldrt => exact Keeps.armIf (Keeps.loadSingle s _ _ _ _ _ _ _)
  | strPre => exact Keeps.armIf (Keeps.storeSingle s _ _ _ _ _ _ _)
  | strPost => exact Keeps.armIf (Keeps.storeSingle s _ _ _ _ _ _ _)
  | strt => exact Keeps.armIf (Keeps.storeSingle s _ _ _ _ _ _ _)
  | ldrbPre => exact Keeps.armIf (Keeps.loadSingle s _ _ _ _ _ _ _)
  | ldrbPost => exact Keeps.armIf (Keeps.loadSingle s _ _ _ _ _ _ _)
  | ldrbt => exact Keeps.armIf (Keeps.loadSingle s _ _ _ _ _ _ _)
  | strbPre => exact Keeps.armIf (Keeps.storeSingle s _ _ _ _ _ _ _)
  | strbPost => exact Keeps.armIf (Keeps.storeSingle s _ _ _ _ _ _ _)
  | strbt => exact Keeps.armIf (Keeps.storeSingle s _ _ _ _ _ _ _)
  | ldm => exact Keeps.armIf (Keeps.ldm s _ _ _ _ _ _)
  | stm => exact Keeps.armIf (Keeps.stm s _ _ _ _ _ _)
  | b => exact Keeps.armIf (Ends.next ((Keeps.refl s).setPc _))
  | bl => exact Keeps.armIf (Ends.next (((Keeps.refl s).setReg _ _).setPc _))
  | undCopTransfer => exact Keeps.armAnomaly s _
  | undCopOp => exact Keeps.armAnomaly s _
  | swi => exact Keeps.armIf (Keeps.softwareInterrupt s _ _)
  | tLslImm => exact Keeps.thumbShift s _ _
  | tLsrImm => exact Keeps.thumbShift s _ _
  | tAsrImm => exact Keeps.thumbShift s _ _
  | tAddReg => exact by unfold exec; exact Keeps.thumbAlu s _ _ _ _ _
  | tSubReg => exact by unfold exec; exact Keeps.thumbAlu s _ _ _ _ _
  | tAddImm3 => exact by unfold exec; exact Keeps.thumbAlu s _ _ _ _ _
  | tSubImm3 => exact by unfold exec; exact Keeps.thumbAlu s _ _ _ _ _
  | tMovImm => exact by unfold exec; exact Keeps.thumbAlu s _ _ _ _ _
  | tCmpImm => exact by unfold exec; exact Keeps.thumbAlu s _ _ _ _ _
  | tAddImm8 => exact by unfold exec; exact Keeps.thumbAlu s _ _ _ _ _
  | tSubImm8 => exact by unfold exec; exact Keeps.thumbAlu s _ _ _ _ _
  | tAnd => exact by unfold exec; exact Keeps.thumbAlu s _ _ _ _ _
  | tEor => exact by unfold exec; exact Keeps.thumbAlu s _ _ _ _ _
  | tLslReg => exact Keeps.thumbShift s _ _
  | tLsrReg => exact Keeps.thumbShift s _ _
  | tAsrReg => exact Keeps.thumbShift s _ _
  | tAdc => exact by unfold exec; exact Keeps.thumbAlu s _ _ _ _ _
  | tSbc => exact by unfold exec; exact Keeps.thumbAlu s _ _ _ _ _
  | tRor => exact Keeps.thumbShift s _ _
  | tTst => exact by unfold exec; exact Keeps.thumbAlu s _ _ _ _ _
  | tNeg => exact by unfold exec; exact Keeps.thumbAlu s _ _ _ _ _
  | tCmpReg => exact by unfold exec; exact Keeps.thumbAlu s _ _ _ _ _
  | tCmn => exact by unfold exec; exact Keeps.thumbAlu s _ _ _ _ _
  | tOrr => exact by unfold exec; exact Keeps.thumbAlu s _ _ _ _ _
  | tMul => exact Ends.ite (fun _ => Ends.fault) fun _ => Ends.next (((((Keeps.refl s).setFlags _).drawn).setGreg _ _).advancePc _)
  | tBic => exact by unfold exec; exact Keeps.thumbAlu s _ _ _ _ _
  | tMvn => exact by unfold exec; exact Keeps.thumbAlu s _ _ _ _ _
  | tAddHi => exact Ends.ite (fun _ => Ends.fault) fun _ => Ends.next ((Keeps.refl s).writeThumb _ _)
  | tCmpHi => exact Ends.ite (fun _ => Ends.fault) fun _ => Ends.next (((Keeps.refl s).setFlags _).advancePc _)
  | tMovHi => exact Ends.ite (fun _ => Ends.fault) fun _ => Ends.next ((Keeps.refl s).writeThumb _ _)
  | tBx => exact Ends.ite (fun _ => Ends.fault) fun _ => Keeps.branchExchange s _
  | tLdrPc => exact Keeps.thumbLoaded s _ _
  | tStrReg => exact Keeps.thumbStored s _ _ _
  | tStrhReg => exact Keeps.thumbStoreHalf s _ _
  | tStrbReg => exact Keeps.thumbStored s _ _ _
  | tLdsb => exact Keeps.thumbLoaded s _ _
  | tLdrReg => exact Keeps.thumbLoaded s _ _
  | tLdrhReg => exact Keeps.thumbLoadHalf s _ _ _
  | tLdrbReg => exact Keeps.thumbLoaded s _ _
  | tLdsh => exact Keeps.thumbLoadHalf s _ _ _
  | tStrImm => exact Keeps.thumbStored s _ _ _
  | tLdrImm => exact Keeps.thumbLoaded s _ _
  | tStrbImm => exact Keeps.thumbStored s _ _ _
  | tLdrbImm => exact Keeps.thumbLoaded s _ _
  | tStrhImm => exact Keeps.thumbStoreHalf s _ _
  | tLdrhImm => exact Keeps.thumbLoadHalf s _ _ _
  | tStrSp => exact Keeps.thumbStored s _ _ _
  | tLdrSp => exact Keeps.thumbLoaded s _ _
  | tAddPc => exact Ends.next (((Keeps.refl s).setGreg _ _).advancePc _)
  | tAddSp => exact Ends.next (((Keeps.refl s).setGreg _ _).advancePc _)
  | tAddSpImm => exact Ends.next (((Keeps.refl s).setReg _ _).advancePc _)
  | tSubSpImm => exact Ends.next (((Keeps.refl s).setReg _ _).advancePc _)
  | tUndB1 => exact Ends.next ((Keeps.refl s).anomaly _ _)
  | tUndB2 => exact Ends.next ((Keeps.refl s).anomaly _ _)
  | tPush => exact Ends.ite (fun _ => Ends.fault) fun _ => Ends.next (((Keeps.storeWords (Keeps.refl s) _ _).setReg _ _).advancePc _)
  | tUndB6 => exact Ends.next ((Keeps.refl s).anomaly _ _)
  | tUndB8 => exact Ends.next ((Keeps.refl s).anomaly _ _)
  | tPop => exact Keeps.tPop s _ _
  | tUndBE => exact Ends.next ((Keeps.refl s).anomaly _ _)
  | tStmia => exact Ends.ite (fun _ => Ends.fault) fun _ => Ends.next (((Keeps.ite ((Keeps.refl s).storeWords _ _).drawn ((Keeps.refl s).storeWords _ _)).setGreg _ _).advancePc _)
  | tLdmia => exact Keeps.tLdmia s _ _
  | tUndDE => exact Ends.next ((Keeps.refl s).anomaly _ _)
  | tSwi => exact Keeps.softwareInterrupt s _ _
  | tBcond => exact Ends.ite (fun _ => Ends.next ((Keeps.refl s).setPc _)) fun _ => Ends.next ((Keeps.refl s).advancePc _)
  | tB => exact Ends.next ((Keeps.refl s).setPc _)
  | tUndE8 => exact Ends.next ((Keeps.refl s).anomaly _ _)
  | tBlHi => exact Ends.next (((Keeps.refl s).setReg _ _).advancePc _)
  | tBlLo => exact Ends.next (((Keeps.refl s).setReg _ _).setPc _)

end Sys2Proof.Machine
end

