-- ==== Sys2Proof/Laws/Ppu.lean ====
section
/-! SUPPORT. The picture processor: where sprite fetches stay, what a tick leaves alone and what it requests, that its counters
stay in range and its framebuffer in form (61). -/

namespace Sys2Proof.Machine

/-! ### Sprite fetches -/

/-- A sprite fetch stays in the 32 KiB of sprite memory, the top of VRAM (61 R1053, R1072). -/
theorem objOffset_bounds (u k : Nat) : 0x10000 ≤ objOffset u k ∧ objOffset u k < Region.vram.size := by
  have e : Region.vram.size = 0x18000 := rfl
  unfold objOffset
  omega

/-- It is the offset of R1053's formula wherever that one stays in VRAM. -/
theorem objOffset_eq {u k : Nat} (h : u * 32 % 0x8000 + k < 0x8000) : objOffset u k = 0x10000 + u * 32 % 0x8000 + k := by
  unfold objOffset
  omega

/-! ### What a tick leaves alone -/

/-- What the picture processor and the interrupt requests never touch. -/
structure Aside (s t : State) : Prop where
  regs : t.regs = s.regs
  pc : t.pc = s.pc
  cpsr : t.cpsr = s.cpsr
  spsr : t.spsr = s.spsr
  halted : t.halted = s.halted
  stopped : t.stopped = s.stopped
  faulted : t.faulted = s.faulted
  waitKind : t.waitKind = s.waitKind
  waitMask : t.waitMask = s.waitMask
  cycleCount : t.cycleCount = s.cycleCount
  instrCount : t.instrCount = s.instrCount
  ie : t.ic.ie = s.ic.ie
  ime : t.ic.ime = s.ic.ime
  mem : t.mem = s.mem
  cart : t.cart = s.cart
  params : t.params = s.params
  freeIdx : t.freeIdx = s.freeIdx
  callback : t.callback = s.callback

theorem Aside.refl (s : State) : Aside s s := by constructor <;> rfl

theorem Aside.trans {s t u : State} (h : Aside s t) (k : Aside t u) : Aside s u := by
  constructor
  · exact k.regs.trans h.regs
  · exact k.pc.trans h.pc
  · exact k.cpsr.trans h.cpsr
  · exact k.spsr.trans h.spsr
  · exact k.halted.trans h.halted
  · exact k.stopped.trans h.stopped
  · exact k.faulted.trans h.faulted
  · exact k.waitKind.trans h.waitKind
  · exact k.waitMask.trans h.waitMask
  · exact k.cycleCount.trans h.cycleCount
  · exact k.instrCount.trans h.instrCount
  · exact k.ie.trans h.ie
  · exact k.ime.trans h.ime
  · exact k.mem.trans h.mem
  · exact k.cart.trans h.cart
  · exact k.params.trans h.params
  · exact k.freeIdx.trans h.freeIdx
  · exact k.callback.trans h.callback

theorem Aside.ite {s a b : State} {c : Prop} [Decidable c] (ha : Aside s a) (hb : Aside s b) :
    Aside s (if c then a else b) := by split <;> assumption

theorem State.setPpu_aside (s : State) (p : Ppu) : Aside s (s.setPpu p) := by constructor <;> rfl

theorem State.request_aside (s : State) (b : Nat) : Aside s (s.request b) := by
  unfold State.request; split <;> constructor <;> rfl

theorem State.request_ppu (s : State) (b : Nat) : (s.request b).ppu = s.ppu := by
  unfold State.request; split <;> rfl

/-- A request sets its IF and SHADOW bits, where IE and IME let it (60 R911). -/
theorem State.request_sets (s : State) (b : Nat) (h : s.ic.ie.getLsbD b = true) (m : s.ic.ime = true) :
    (s.request b).ic.iff = s.ic.iff ||| (1#14 <<< b) ∧ (s.request b).ic.shadow = s.ic.shadow ||| (1#16 <<< b) := by
  unfold State.request; rw [h, m]; exact ⟨rfl, rfl⟩

/-- A request clears no bit of IF or SHADOW. -/
theorem State.request_mono (s : State) (b k : Nat) :
    (s.ic.iff.getLsbD k = true → (s.request b).ic.iff.getLsbD k = true) ∧
      (s.ic.shadow.getLsbD k = true → (s.request b).ic.shadow.getLsbD k = true) := by
  unfold State.request
  split
  · constructor <;> intro h <;> simp [State.setIc, BitVec.getLsbD_or, h]
  · exact ⟨id, id⟩

theorem hblankEvent_aside (s : State) : Aside s (hblankEvent s) := by
  unfold hblankEvent
  split
  · exact (State.setPpu_aside _ _).trans (State.request_aside _ _)
  · exact State.setPpu_aside _ _

theorem vcountCheck_aside (s : State) : Aside s (vcountCheck s) := by
  unfold vcountCheck
  simp only []
  split
  · exact (State.setPpu_aside _ _).trans (State.request_aside _ _)
  · exact State.setPpu_aside _ _

theorem publishFrame_aside (s : State) : Aside s (publishFrame s) := by
  unfold publishFrame deliver
  split
  · exact State.setPpu_aside _ _
  · constructor <;> rfl

theorem vblankEntry_aside (s : State) : Aside s (vblankEntry s) := by
  unfold vblankEntry
  split
  · exact ((State.setPpu_aside _ _).trans (publishFrame_aside _)).trans (State.request_aside _ _)
  · exact (State.setPpu_aside _ _).trans (publishFrame_aside _)

theorem renderLine_aside (y : Nat) (s : State) : Aside s (renderLine y s) := by
  unfold renderLine reportMode
  split <;> constructor <;> rfl

theorem lineEnd_aside (s : State) : Aside s (lineEnd s) := by
  have h : Aside s (vcountCheck (nextLine (if s.ppu.line < visibleLines then renderLine s.ppu.line s else s))) := by
    refine Aside.trans ?_ (vcountCheck_aside _)
    refine Aside.trans ?_ (State.setPpu_aside _ _)
    split
    · exact renderLine_aside _ _
    · exact Aside.refl s
  unfold lineEnd
  exact Aside.ite (h.trans (vblankEntry_aside _)) h

theorem tick_aside (s : State) : Aside s (tick s) := by
  unfold tick
  simp only []
  split
  · exact (State.setPpu_aside _ _).trans (hblankEvent_aside _)
  · split
    · exact (State.setPpu_aside _ _).trans (lineEnd_aside _)
    · exact State.setPpu_aside _ _

theorem advance_aside (c : Nat) : ∀ s : State, Aside s (advance c s) := by
  induction c with
  | zero => exact Aside.refl
  | succ c ih => intro s; exact (tick_aside s).trans (ih _)

/-! ### Counters and framebuffer -/

/-- What a tick does to the counters. -/
theorem publishFrame_ppu (s : State) : (publishFrame s).ppu = { s.ppu with frameReady := true } := by
  unfold publishFrame deliver; split <;> rfl

theorem vcountCheck_ppu (s : State) :
    (vcountCheck s).ppu = { s.ppu with dispstat := { s.ppu.dispstat with vmatch := decide (s.ppu.line = s.ppu.dispstat.lyc.toNat) } } := by
  unfold vcountCheck
  simp only []
  split
  · rw [State.request_ppu]; rfl
  · rfl

theorem vblankEntry_ppu (s : State) :
    (vblankEntry s).ppu = { s.ppu with frameReady := true, dispstat := { s.ppu.dispstat with vblank := true } } := by
  unfold vblankEntry
  simp only []
  split
  · rw [State.request_ppu, publishFrame_ppu]; rfl
  · rw [publishFrame_ppu]; rfl

theorem hblankEvent_ppu (s : State) :
    (hblankEvent s).ppu = { s.ppu with hblankDone := true, dispstat := { s.ppu.dispstat with hblank := true } } := by
  unfold hblankEvent
  simp only []
  split
  · rw [State.request_ppu]; rfl
  · rfl

theorem renderLine_ppu (y : Nat) (s : State) :
    (renderLine y s).ppu = { s.ppu with fb := Frame.setRow s.ppu.fb y (renderedRow s y) } := rfl

/-- The framebuffer after the end of a line. -/
def lineFrame (s : State) : Frame :=
  if s.ppu.line < visibleLines then Frame.setRow s.ppu.fb s.ppu.line (renderedRow s s.ppu.line) else s.ppu.fb

/-- The line after the end of a line. -/
def lineAfter (s : State) : Nat := if s.ppu.line + 1 = totalLines then 0 else s.ppu.line + 1

/-- The picture processor after the end of a line. -/
theorem lineEnd_ppu (s : State) :
    (lineEnd s).ppu = { s.ppu with
      fb := lineFrame s
      line := lineAfter s
      lineCycle := 0
      hblankDone := false
      frameReady := s.ppu.frameReady || decide (lineAfter s = visibleLines)
      dispstat := { s.ppu.dispstat with
        hblank := false
        vblank := if lineAfter s = visibleLines then true
          else if s.ppu.line + 1 = totalLines then false else s.ppu.dispstat.vblank
        vmatch := decide (lineAfter s = s.ppu.dispstat.lyc.toNat) } } := by
  have hr : (if s.ppu.line < visibleLines then renderLine s.ppu.line s else s).ppu = { s.ppu with fb := lineFrame s } := by
    unfold lineFrame; split <;> rfl
  have hn : (nextLine (if s.ppu.line < visibleLines then renderLine s.ppu.line s else s)).ppu = { s.ppu with
      fb := lineFrame s
      line := lineAfter s
      lineCycle := 0
      hblankDone := false
      dispstat := { s.ppu.dispstat with
        hblank := false
        vblank := if s.ppu.line + 1 = totalLines then false else s.ppu.dispstat.vblank } } := by
    simp only [nextLine, State.setPpu, hr, lineAfter]
  unfold lineEnd
  simp only []
  by_cases e : lineAfter s = visibleLines
  · rw [if_pos (by rw [vcountCheck_ppu, hn]; exact e), vblankEntry_ppu, vcountCheck_ppu, hn]
    simp [e]
  · rw [if_neg (by rw [vcountCheck_ppu, hn]; exact e), vcountCheck_ppu, hn]
    simp [e]

/-- The picture processor after a tick. -/
theorem tick_ppu (s : State) :
    (tick s).ppu =
      if s.ppu.lineCycle + 1 = hblankAt then
        { s.ppu with
          lineCycle := s.ppu.lineCycle + 1, hblankDone := true, dispstat := { s.ppu.dispstat with hblank := true } }
      else if s.ppu.lineCycle + 1 = lineCyc then (lineEnd (s.setPpu { s.ppu with lineCycle := s.ppu.lineCycle + 1 })).ppu
      else { s.ppu with lineCycle := s.ppu.lineCycle + 1 } := by
  have e : tick s =
      if s.ppu.lineCycle + 1 = hblankAt then hblankEvent (s.setPpu { s.ppu with lineCycle := s.ppu.lineCycle + 1 })
      else if s.ppu.lineCycle + 1 = lineCyc then lineEnd (s.setPpu { s.ppu with lineCycle := s.ppu.lineCycle + 1 })
      else s.setPpu { s.ppu with lineCycle := s.ppu.lineCycle + 1 } := rfl
  rw [e]
  split
  · rw [hblankEvent_ppu]; rfl
  · split <;> rfl

/-- What a tick leaves of DISPSTAT's enables and setting, and where it moves the VCount flag and `frameReady`. -/
theorem tick_dispstat (s : State) :
    (tick s).ppu.dispstat.vblankIrq = s.ppu.dispstat.vblankIrq ∧ (tick s).ppu.dispstat.hblankIrq = s.ppu.dispstat.hblankIrq ∧
      (tick s).ppu.dispstat.vcountIrq = s.ppu.dispstat.vcountIrq ∧ (tick s).ppu.dispstat.lyc = s.ppu.dispstat.lyc ∧
      (tick s).ppu.dispstat.vmatch = (if s.ppu.lineCycle + 1 = lineCyc then decide (lineAfter s = s.ppu.dispstat.lyc.toNat)
        else s.ppu.dispstat.vmatch) ∧
      (tick s).ppu.frameReady =
        (s.ppu.frameReady || (decide (s.ppu.lineCycle + 1 = lineCyc) && decide (lineAfter s = visibleLines))) := by
  rw [tick_ppu]
  split
  · next h =>
    have e : ¬(s.ppu.lineCycle + 1 = lineCyc) := by rw [h]; decide
    simp [e]
  · split
    · next h => rw [lineEnd_ppu]; simp [h, lineAfter]; exact ⟨rfl, rfl⟩
    · next h => simp [h]

/-! ### The requests of a tick (61 R1003, R1004; 60 R911) -/

/-- Bit `b` of IF and of SHADOW after a request of it where `e` holds: IE and IME must let it. -/
structure Raises (s t : State) (b : Nat) (e : Bool) : Prop where
  aside : Aside s t
  iff : t.ic.iff.getLsbD b = (s.ic.iff.getLsbD b || (e && (s.ic.ie.getLsbD b && s.ic.ime)))
  shadow : t.ic.shadow.getLsbD b = (s.ic.shadow.getLsbD b || (e && (s.ic.ie.getLsbD b && s.ic.ime)))

theorem Raises.none {s t : State} (a : Aside s t) (h : t.ic = s.ic) (b : Nat) : Raises s t b false :=
  ⟨a, by simp [h], by simp [h]⟩

theorem Raises.trans {s t u : State} {b : Nat} {e f : Bool} (h : Raises s t b e) (k : Raises t u b f) :
    Raises s u b (e || f) := by
  refine ⟨h.aside.trans k.aside, ?_, ?_⟩
  · rw [k.iff, h.iff, h.aside.ie, h.aside.ime]
    cases e <;> cases f <;> simp
  · rw [k.shadow, h.shadow, h.aside.ie, h.aside.ime]
    cases e <;> cases f <;> simp

theorem State.request_raises (s : State) (b k : Nat) (hb : b < 14) : Raises s (s.request b) k (decide (k = b)) := by
  have bit : ∀ n : Nat, b < n → (1#n <<< b).getLsbD k = decide (k = b) := by
    intro n hn
    by_cases c : k = b
    · simp [c, hn]
    · simp [c]; omega
  refine ⟨State.request_aside s b, ?_, ?_⟩ <;> unfold State.request <;> split
  · next c => simp only [State.setIc, BitVec.getLsbD_or, bit 14 hb]; by_cases e : k = b <;> simp_all
  · next c => by_cases e : k = b <;> simp_all
  · next c => simp only [State.setIc, BitVec.getLsbD_or, bit 16 (by omega)]; by_cases e : k = b <;> simp_all
  · next c => by_cases e : k = b <;> simp_all

/-- A request made where a flag is set, after an update that leaves the controller alone. -/
theorem Raises.ofIte {s t : State} {b : Nat} (a : Aside s t) (h : t.ic = s.ic) (hb : b < 14) (k : Nat) (c : Bool) :
    Raises s (if c then t.request b else t) k (decide (k = b) && c) := by
  cases c
  · simpa using Raises.none a h k
  · simpa using (Raises.none a h k).trans (State.request_raises t b k hb)

theorem renderLine_ic (y : Nat) (s : State) : (renderLine y s).ic = s.ic := by
  unfold renderLine reportMode; split <;> rfl

theorem publishFrame_ic (s : State) : (publishFrame s).ic = s.ic := by
  unfold publishFrame deliver; split <;> rfl

theorem hblankEvent_raises (s : State) (k : Nat) :
    Raises s (hblankEvent s) k (decide (k = 1) && s.ppu.dispstat.hblankIrq) :=
  Raises.ofIte (State.setPpu_aside _ _) rfl (by decide) k _

theorem vblankEntry_raises (s : State) (k : Nat) :
    Raises s (vblankEntry s) k (decide (k = 0) && s.ppu.dispstat.vblankIrq) :=
  Raises.ofIte ((State.setPpu_aside _ _).trans (publishFrame_aside _)) (publishFrame_ic _) (by decide) k _

theorem vcountCheck_raises (s : State) (k : Nat) :
    Raises s (vcountCheck s) k
      (decide (k = 2) && (decide (s.ppu.line = s.ppu.dispstat.lyc.toNat) && s.ppu.dispstat.vcountIrq)) := by
  have h := Raises.ofIte (State.setPpu_aside s
    { s.ppu with dispstat := { s.ppu.dispstat with vmatch := decide (s.ppu.line = s.ppu.dispstat.lyc.toNat) } }) rfl
    (b := 2) (by decide) k (decide (s.ppu.line = s.ppu.dispstat.lyc.toNat) && s.ppu.dispstat.vcountIrq)
  unfold vcountCheck
  simp only [Bool.and_eq_true, decide_eq_true_eq] at h ⊢
  exact h

/-- The end of a line requests VCount where the new line matches, and VBlank on the change to line 160. -/
theorem lineEnd_raises (s : State) (k : Nat) :
    Raises s (lineEnd s) k
      ((decide (k = 2) && (decide (lineAfter s = s.ppu.dispstat.lyc.toNat) && s.ppu.dispstat.vcountIrq)) ||
        (decide (lineAfter s = visibleLines) && (decide (k = 0) && s.ppu.dispstat.vblankIrq))) := by
  have h : ∀ r : State, Aside s r → r.ic = s.ic → r.ppu.dispstat = s.ppu.dispstat → r.ppu.line = s.ppu.line →
      Raises s (if (vcountCheck (nextLine r)).ppu.line = visibleLines then vblankEntry (vcountCheck (nextLine r))
        else vcountCheck (nextLine r)) k
        ((decide (k = 2) && (decide (lineAfter s = s.ppu.dispstat.lyc.toNat) && s.ppu.dispstat.vcountIrq)) ||
          (decide (lineAfter s = visibleLines) && (decide (k = 0) && s.ppu.dispstat.vblankIrq))) := by
    intro r a i d l
    have hl : (nextLine r).ppu.line = lineAfter s := by simp [nextLine, lineAfter, l]
    have hd : (nextLine r).ppu.dispstat.vcountIrq = s.ppu.dispstat.vcountIrq ∧
        (nextLine r).ppu.dispstat.vblankIrq = s.ppu.dispstat.vblankIrq ∧
        (nextLine r).ppu.dispstat.lyc = s.ppu.dispstat.lyc := by simp [nextLine, d]
    have n : Aside r (nextLine r) := by constructor <;> rfl
    have m : Raises s (nextLine r) k false := Raises.none (a.trans n) i k
    have v := m.trans (vcountCheck_raises (nextLine r) k)
    have b := v.trans (vblankEntry_raises (vcountCheck (nextLine r)) k)
    simp only [vcountCheck_ppu, hl, hd.1, hd.2.1, hd.2.2, Bool.false_or] at v b ⊢
    split
    · next e => simpa only [e, decide_true, Bool.true_and] using b
    · next e => simpa only [e, decide_false, Bool.false_and, Bool.or_false] using v
  unfold lineEnd
  split
  · exact h _ (renderLine_aside _ _) (renderLine_ic _ _) rfl rfl
  · exact h _ (Aside.refl s) rfl rfl rfl

/-- The request of interrupt bit `k` that the next tick makes, where DISPSTAT enables it. -/
def tickRequests (s : State) (k : Nat) : Bool :=
  (decide (s.ppu.lineCycle + 1 = hblankAt) && (decide (k = 1) && s.ppu.dispstat.hblankIrq)) ||
    (decide (s.ppu.lineCycle + 1 = lineCyc) &&
      ((decide (k = 2) && (decide (lineAfter s = s.ppu.dispstat.lyc.toNat) && s.ppu.dispstat.vcountIrq)) ||
        (decide (lineAfter s = visibleLines) && (decide (k = 0) && s.ppu.dispstat.vblankIrq))))

/-- Every request of a tick, bit by bit. -/
theorem tick_raises (s : State) (k : Nat) : Raises s (tick s) k (tickRequests s k) := by
  have m : Raises s (s.setPpu { s.ppu with lineCycle := s.ppu.lineCycle + 1 }) k false :=
    Raises.none (State.setPpu_aside _ _) rfl k
  have e : tick s =
      if s.ppu.lineCycle + 1 = hblankAt then hblankEvent (s.setPpu { s.ppu with lineCycle := s.ppu.lineCycle + 1 })
      else if s.ppu.lineCycle + 1 = lineCyc then lineEnd (s.setPpu { s.ppu with lineCycle := s.ppu.lineCycle + 1 })
      else s.setPpu { s.ppu with lineCycle := s.ppu.lineCycle + 1 } := rfl
  rw [e]
  unfold tickRequests
  by_cases h : s.ppu.lineCycle + 1 = hblankAt
  · have n : ¬(s.ppu.lineCycle + 1 = lineCyc) := by rw [h]; decide
    rw [if_pos h, decide_eq_true h, decide_eq_false n, Bool.true_and, Bool.false_and, Bool.or_false]
    exact m.trans (hblankEvent_raises _ k)
  · rw [if_neg h, decide_eq_false h, Bool.false_and, Bool.false_or]
    by_cases n : s.ppu.lineCycle + 1 = lineCyc
    · rw [if_pos n, decide_eq_true n, Bool.true_and]
      exact m.trans (lineEnd_raises _ k)
    · rw [if_neg n, decide_eq_false n, Bool.false_and]
      exact m

theorem renderedRow_length (s : State) (y : Nat) : (renderedRow s y).length = lineWidth := by
  simp [renderedRow]

theorem Frame.wf_setRow {fb : Frame} {y : Nat} {row : List Word} (h : Frame.wf fb = true) (hy : y < visibleLines)
    (hr : row.length = lineWidth) : Frame.wf (Frame.setRow fb y row) = true := by
  unfold Frame.wf at h ⊢
  rw [Bool.and_eq_true] at h ⊢
  exact ⟨Sparse.wf_set _ _ _ _ h.1, Sparse.all_set _ _ _ _ _ h.2 fun _ => by simp [hy, hr]⟩

theorem Frame.wf_lineFrame {s : State} (h : Frame.wf s.ppu.fb = true) : Frame.wf (lineFrame s) = true := by
  unfold lineFrame
  split
  · exact Frame.wf_setRow h ‹_› (renderedRow_length _ _)
  · exact h

/-- A tick keeps the framebuffer in its form. -/
theorem tick_frame {s : State} (h : Frame.wf s.ppu.fb = true) : Frame.wf (tick s).ppu.fb = true := by
  rw [tick_ppu]
  split
  · exact h
  · split
    · rw [lineEnd_ppu]; exact Frame.wf_lineFrame (s := s.setPpu _) h
    · exact h

/-- The counters in range and the flags agreeing with them, in words. -/
theorem Ppu.countersOk_iff (p : Ppu) :
    p.countersOk = true ↔ p.line < 228 ∧ p.lineCycle < 1232 ∧ p.dispstat.vblank = decide (160 ≤ p.line) ∧
      p.dispstat.hblank = decide (960 ≤ p.lineCycle) ∧ p.hblankDone = decide (960 ≤ p.lineCycle) := by
  have e : p.countersOk = (decide (p.line < 228) && decide (p.lineCycle < 1232) &&
      p.dispstat.vblank == decide (160 ≤ p.line) && p.dispstat.hblank == decide (960 ≤ p.lineCycle) &&
      p.hblankDone == decide (960 ≤ p.lineCycle)) := rfl
  rw [e]
  simp [and_assoc]

/-- A tick keeps the counters in range, and moves one cycle on in the frame. -/
theorem tick_counters {s : State} (h : s.ppu.countersOk = true) :
    (tick s).ppu.countersOk = true ∧
      (tick s).ppu.line * 1232 + (tick s).ppu.lineCycle =
        (s.ppu.line * 1232 + s.ppu.lineCycle + 1) % 280896 := by
  rw [Ppu.countersOk_iff] at h ⊢
  obtain ⟨hl, hc, hv, hh, hd⟩ := h
  rw [tick_ppu]
  have e1 : hblankAt = 960 := rfl
  have e2 : lineCyc = 1232 := rfl
  have e3 : visibleLines = 160 := rfl
  have e4 : totalLines = 228 := rfl
  split
  · next c => simp only []; rw [e1] at c; refine ⟨⟨hl, by omega, hv, by simp; omega, by simp; omega⟩, by omega⟩
  · next c =>
    split
    · next c' =>
      rw [e2] at c'
      rw [lineEnd_ppu]
      simp only [State.setPpu_ppu, lineAfter, e3, e4]
      by_cases w : s.ppu.line + 1 = 228
      · rw [if_pos w]; simp; omega
      · rw [if_neg w]
        refine ⟨⟨by omega, by omega, ?_, by simp, by simp⟩, by omega⟩
        by_cases z : s.ppu.line + 1 = 160
        · simp [z]
        · rw [if_neg z, if_neg w, hv]; simp; omega
    · next c' =>
      rw [e1] at c; rw [e2] at c'
      simp only []
      refine ⟨⟨hl, by omega, hv, ?_, ?_⟩, by omega⟩
      · rw [hh]; simp; omega
      · rw [hd]; simp; omega

/-- The counters and the framebuffer after any number of ticks. -/
theorem advance_sound (c : Nat) :
    ∀ {s : State}, s.ppu.countersOk = true → Frame.wf s.ppu.fb = true →
      (advance c s).ppu.countersOk = true ∧ Frame.wf (advance c s).ppu.fb = true := by
  induction c with
  | zero => intro s h k; exact ⟨h, k⟩
  | succ c ih => intro s h k; exact ih (tick_counters h).1 (tick_frame k)

end Sys2Proof.Machine
end

