-- ==== Sys2Proof/Laws/Session.lean ====
section
/-! SUPPORT. What a session does with a faulted CPU (60 R900, R902, R962). -/

namespace Sys2Proof.Machine

@[simp] theorem recordFault_of_faulted {s : State} (f : Fault) (h : s.faulted = true) : recordFault f s = s := by
  simp [recordFault, h]

@[simp] theorem recordFault_log {s : State} (f : Fault) (h : s.faulted = false) :
    (recordFault f s).log = .fault f :: s.log := by
  simp [recordFault, h]

@[simp] theorem recordFault_faulted (f : Fault) (s : State) : (recordFault f s).faulted = true := by
  unfold recordFault
  split
  · assumption
  · rfl

/-- `runFrame` of a CPU that has faulted ends at once and reports no event: no step exists. -/
theorem runFrame_faulted {s : State} (h : s.faulted = true) :
    runFrame s = (.fault .faultedCpu, { s with ppu := { s.ppu with frameReady := false }, pendingCycles := 0 }) := by
  have e : ∀ (n : Nat) (u : State), u.faulted = true → u.ppu.frameReady = false →
      frameLoop (n + 1) u = (.fault .faultedCpu, u) := by
    intro n u hf hr
    have hs : step u = .fault .faultedCpu := by simp [step, cpuStep, hf]
    simp [frameLoop, hr, hs, hf]
  exact e _ _ h rfl

end Sys2Proof.Machine
end

