-- ==== Sys2Proof/Laws/Step.lean ====
section
/-! SUPPORT. The step in parts: what it costs, how a waiting CPU wakes, what a step of the CPU can be, and what follows it (60 R900 to R904, R915,
R962). -/

namespace Sys2Proof.Machine

/-! ### Costs -/

/-- An instruction costs at least one cycle in every state (00 R8). -/
theorem cycOf_pos (i : Instr) (s : State) : 1 ≤ cycOf i s := by
  unfold cycOf
  split <;> omega

theorem instrCost_pos (i : Instr) (s : State) : 1 ≤ instrCost i s := by
  have h := cycOf_pos i s
  unfold instrCost hleCyc
  split
  · exact h
  · split <;> omega
  · split <;> omega

/-! ### After the CPU's step -/

theorem requestAll_aside (bs : List Nat) : ∀ s : State, Aside s (requestAll bs s) := by
  induction bs with
  | nil => exact Aside.refl
  | cons b rest ih => intro s; exact (State.request_aside s b).trans (ih _)

theorem requestAll_ppu (bs : List Nat) : ∀ s : State, (requestAll bs s).ppu = s.ppu := by
  induction bs with
  | nil => intro s; rfl
  | cons b rest ih => intro s; exact (ih _).trans (State.request_ppu s b)

theorem runPpu_aside (s : State) : Aside s (runPpu s) := by
  unfold runPpu
  refine Aside.ite ?_ (Aside.refl s)
  refine Aside.trans ?_ (advance_aside _ _)
  constructor <;> rfl

/-- What follows a step leaves everything but the counts, the picture processor and the interrupt flags alone. -/
theorem afterStep_aside (c : Nat) (s : State) : Aside (addCycles c s) (afterStep c s) :=
  (runPpu_aside _).trans (requestAll_aside _ _)

theorem afterStep_cycleCount (c : Nat) (s : State) : (afterStep c s).cycleCount = s.cycleCount + BitVec.ofNat 64 c :=
  (afterStep_aside c s).cycleCount

/-- What follows a step keeps the counters in range and the framebuffer in its form. -/
theorem afterStep_ppu {s : State} (c : Nat) (h : s.ppu.countersOk = true) (k : Frame.wf s.ppu.fb = true) :
    (afterStep c s).ppu.countersOk = true ∧ Frame.wf (afterStep c s).ppu.fb = true := by
  unfold afterStep runExternal
  rw [requestAll_ppu]
  unfold runPpu
  split
  · exact advance_sound _ (s := { addCycles c s with pendingCycles := 0 }) h k
  · exact ⟨h, k⟩

/-! ### Waking -/

/-- The CPU woke, or was awake: only the wait state and SHADOW may differ. -/
structure Woken (s t : State) : Prop where
  same : t = { s with halted := t.halted, stopped := t.stopped, waitKind := t.waitKind, ic := { s.ic with shadow := t.ic.shadow } }
  wait : s.waitOk = true → t.waitOk = true

theorem Woken.refl (s : State) : Woken s s := ⟨rfl, id⟩

theorem Woken.trans {s t u : State} (h : Woken s t) (k : Woken t u) : Woken s u := by
  refine ⟨?_, fun x => k.wait (h.wait x)⟩
  rw [k.same, h.same]

theorem wakeStop_woken {s t : State} (h : wakeStop s = some t) : Woken s t := by
  unfold wakeStop at h
  split at h
  · split at h
    · cases h; exact ⟨rfl, id⟩
    · exact absurd h (by simp)
  · cases h; exact Woken.refl s

theorem wakeHalt_woken {s t : State} (h : wakeHalt s = some t) : Woken s t := by
  unfold wakeHalt at h
  split at h
  · split at h
    · split at h
      · cases h; exact ⟨rfl, fun _ => rfl⟩
      · exact absurd h (by simp)
    · split at h
      · cases h; exact ⟨rfl, fun _ => rfl⟩
      · exact absurd h (by simp)
    · exact absurd h (by simp)
  · cases h; exact Woken.refl s

/-- What a step of the CPU that ends in a next state is: a cycle of waiting, an IRQ entry, or one counted instruction, of a CPU
that is awake. -/
inductive CpuStep (s : State) (r : State × Nat) : Prop where
  | waits (u : State) (woken : Woken s u) (eq : r = (u, haltCyc u))
  | enters (u : State) (woken : Woken s u) (pending : u.pendingInterrupt.isSome = true) (enabled : u.cpsr.i = false)
      (eq : r = (u.irqEntry, irqCyc u))
  | runs (u t : State) (i : Instr) (woken : Woken s u) (fetched : decode (fetch u) = some i) (ran : exec i u = .next t)
      (eq : r = (t.counted, instrCost i u))
  | unmatched (u t : State) (woken : Woken s u) (fetched : decode (fetch u) = none)
      (ran : runUnmatched (fetch u) u = .next (t, r.2)) (eq : r.1 = t.counted)

theorem awakeStep_cases {s u : State} {r : State × Nat} (w : Woken s u) (h : awakeStep u = .next r) : CpuStep s r := by
  unfold awakeStep at h
  split at h
  · next c =>
    rw [Bool.and_eq_true, Bool.not_eq_true'] at c
    cases h
    exact .enters u w c.1 c.2 rfl
  · unfold instrStep at h
    split at h
    · next q hq =>
      cases h
      unfold runCode at hq
      split at hq
      · next hd => exact .unmatched u q.1 w hd hq rfl
      · next i hd =>
        unfold runInstr at hq
        split at hq
        · next t ht => cases hq; exact .runs u t i w hd ht rfl
        · exact absurd hq (by simp)
        · exact absurd hq (by simp)
    · exact absurd h (by simp)
    · exact absurd h (by simp)

/-- The four ways a step of the CPU ends in a next state. -/
theorem cpuStep_cases {s : State} {r : State × Nat} (h : cpuStep s = .next r) : CpuStep s r := by
  unfold cpuStep at h
  split at h
  · exact absurd h (by simp)
  · split at h
    · cases h; exact .waits s (Woken.refl s) rfl
    · next u hu =>
      split at h
      · cases h; exact .waits u (wakeStop_woken hu) rfl
      · next v hv => exact awakeStep_cases ((wakeStop_woken hu).trans (wakeHalt_woken hv)) h

/-- The step is the CPU's step and what follows it. -/
theorem step_next {s t : State} (h : step s = .next t) : ∃ r, cpuStep s = .next r ∧ t = afterStep r.2 r.1 := by
  unfold step at h
  split at h
  · next r hr => cases h; exact ⟨r, hr, rfl⟩
  · exact absurd h (by simp)
  · exact absurd h (by simp)

end Sys2Proof.Machine
end

