-- ==== Sys2Proof/Tests/Slice0.lean ====
section
/-! SUPPORT. The model's own tests: words written out from 30 R301 and R307, the checks of WellFormed, the vectors of spec/95 and
the examples of the rules, each one step from a small state, and a witness for the hypotheses of every obligation. Every expected
value is the spec's, or worked out by hand from its rule. -/

namespace Sys2Proof.Tests

open Sys2Proof.Machine Sys2Proof.Claims

set_option maxRecDepth 8192

/-! ### Decoding -/

/-- The word decodes to the instruction. -/
def decodes {α : Type} (code : α → Code) (p : α × Instr) : Bool :=
  decode (code p.1) = some p.2

theorem test_decode_multiply :
    ([
      (0b0000_000_0_0_0_0_1_0001_0010_0011_1_00_1_0100, .mul .eq true 1 2 3 4),
      (0b0001_000_0_0_0_1_0_0101_0110_0111_1_00_1_1000, .mla .ne false 5 6 7 8),
      (0b1110_000_0_1_0_0_1_1001_1010_1011_1_00_1_1100, .umull .al true 9 10 11 12),
      (0b1110_000_0_1_0_1_1_1001_1010_1011_1_00_1_1100, .umlal .al true 9 10 11 12),
      (0b1110_000_0_1_1_0_1_1001_1010_1011_1_00_1_1100, .smull .al true 9 10 11 12),
      (0b1110_000_0_1_1_1_1_1001_1010_1011_1_00_1_1100, .smlal .al true 9 10 11 12)] : List (Word × Instr)).all (decodes .arm) = true := by decide

theorem test_decode_swap :
    ([
      (0b1110_000_1_0_0_0_0_0001_0010_0000_1_00_1_0011, .swp .al 1 2 3),
      (0b1110_000_1_0_1_0_0_0001_0010_0000_1_00_1_0011, .swpb .al 1 2 3)] : List (Word × Instr)).all (decodes .arm) = true := by decide

theorem test_decode_halfword :
    ([
      (0b1110_000_1_0_1_1_1_0100_0101_1010_1_01_1_0110, .ldrh .al true false true 4 5 (.imm 0xA6)),
      (0b1110_000_0_1_0_0_1_0100_0101_0000_1_01_1_0110, .ldrh .al false true false 4 5 (.reg 6)),
      (0b1110_000_1_0_1_1_1_0100_0101_1010_1_10_1_0110, .ldrsb .al true false true 4 5 (.imm 0xA6)),
      (0b1110_000_0_1_0_0_1_0100_0101_0000_1_10_1_0110, .ldrsb .al false true false 4 5 (.reg 6)),
      (0b1110_000_1_0_1_1_1_0100_0101_1010_1_11_1_0110, .ldrsh .al true false true 4 5 (.imm 0xA6)),
      (0b1110_000_0_1_0_0_1_0100_0101_0000_1_11_1_0110, .ldrsh .al false true false 4 5 (.reg 6)),
      (0b1110_000_1_0_1_1_0_0100_0101_1010_1_01_1_0110, .strh .al true false true 4 5 (.imm 0xA6)),
      (0b1110_000_0_1_0_0_0_0100_0101_0000_1_01_1_0110, .strh .al false true false 4 5 (.reg 6))] : List (Word × Instr)).all (decodes .arm) = true := by decide

theorem test_decode_psr_transfer :
    ([
      (0b1110_000_1_0_1_0_0_1111_0011_0000_0_00_0_0000, .mrs .al true 3),
      (0b1110_000_1_0_0_1_0_1001_1111_0000_0_00_0_0011, .msrReg .al false 0b1001 3),
      (0b1110_001_1_0_1_1_0_1000_1111_1111_0010_1011, .msrImm .al true 0b1000 0xF 0x2B),
      (0b0110_000_1_0_0_1_0_1111_1111_1111_0_00_1_1001, .bx .vs 9)] : List (Word × Instr)).all (decodes .arm) = true := by decide

theorem test_decode_data_processing_imm :
    ([
      (0b1110_001_0_0_0_0_1_0001_0010_1001_0101_1100, .andImm .al true 1 2 0x9 0x5C),
      (0b1110_001_0_0_0_1_1_0001_0010_1001_0101_1100, .eorImm .al true 1 2 0x9 0x5C),
      (0b1110_001_0_0_1_0_1_0001_0010_1001_0101_1100, .subImm .al true 1 2 0x9 0x5C),
      (0b1110_001_0_0_1_1_1_0001_0010_1001_0101_1100, .rsbImm .al true 1 2 0x9 0x5C),
      (0b1110_001_0_1_0_0_1_0001_0010_1001_0101_1100, .addImm .al true 1 2 0x9 0x5C),
      (0b1110_001_0_1_0_1_1_0001_0010_1001_0101_1100, .adcImm .al true 1 2 0x9 0x5C),
      (0b1110_001_0_1_1_0_1_0001_0010_1001_0101_1100, .sbcImm .al true 1 2 0x9 0x5C),
      (0b1110_001_0_1_1_1_1_0001_0010_1001_0101_1100, .rscImm .al true 1 2 0x9 0x5C),
      (0b1110_001_1_0_0_0_1_0001_0010_1001_0101_1100, .tstImm .al 1 2 0x9 0x5C),
      (0b1110_001_1_0_0_1_1_0001_0010_1001_0101_1100, .teqImm .al 1 2 0x9 0x5C),
      (0b1110_001_1_0_1_0_1_0001_0010_1001_0101_1100, .cmpImm .al 1 2 0x9 0x5C),
      (0b1110_001_1_0_1_1_1_0001_0010_1001_0101_1100, .cmnImm .al 1 2 0x9 0x5C),
      (0b1110_001_1_1_0_0_1_0001_0010_1001_0101_1100, .orrImm .al true 1 2 0x9 0x5C),
      (0b1110_001_1_1_0_1_1_0001_0010_1001_0101_1100, .movImm .al true 1 2 0x9 0x5C),
      (0b1110_001_1_1_1_0_1_0001_0010_1001_0101_1100, .bicImm .al true 1 2 0x9 0x5C),
      (0b1110_001_1_1_1_1_1_0001_0010_1001_0101_1100, .mvnImm .al true 1 2 0x9 0x5C)] : List (Word × Instr)).all (decodes .arm) = true := by decide

theorem test_decode_data_processing_rsi :
    ([
      (0b1010_000_0_0_0_0_0_0011_0100_1010_1_00_0_0101, .andRsi .ge false 3 4 21 .lsl 5),
      (0b1010_000_0_0_0_1_0_0011_0100_1010_1_01_0_0101, .eorRsi .ge false 3 4 21 .lsr 5),
      (0b1010_000_0_0_1_0_0_0011_0100_1010_1_10_0_0101, .subRsi .ge false 3 4 21 .asr 5),
      (0b1010_000_0_0_1_1_0_0011_0100_1010_1_11_0_0101, .rsbRsi .ge false 3 4 21 .ror 5),
      (0b1010_000_0_1_0_0_0_0011_0100_1010_1_00_0_0101, .addRsi .ge false 3 4 21 .lsl 5),
      (0b1010_000_0_1_0_1_0_0011_0100_1010_1_01_0_0101, .adcRsi .ge false 3 4 21 .lsr 5),
      (0b1010_000_0_1_1_0_0_0011_0100_1010_1_10_0_0101, .sbcRsi .ge false 3 4 21 .asr 5),
      (0b1010_000_0_1_1_1_0_0011_0100_1010_1_11_0_0101, .rscRsi .ge false 3 4 21 .ror 5),
      (0b1010_000_1_0_0_0_1_0011_0100_1010_1_00_0_0101, .tstRsi .ge 3 4 21 .lsl 5),
      (0b1010_000_1_0_0_1_1_0011_0100_1010_1_01_0_0101, .teqRsi .ge 3 4 21 .lsr 5),
      (0b1010_000_1_0_1_0_1_0011_0100_1010_1_10_0_0101, .cmpRsi .ge 3 4 21 .asr 5),
      (0b1010_000_1_0_1_1_1_0011_0100_1010_1_11_0_0101, .cmnRsi .ge 3 4 21 .ror 5),
      (0b1010_000_1_1_0_0_0_0011_0100_1010_1_00_0_0101, .orrRsi .ge false 3 4 21 .lsl 5),
      (0b1010_000_1_1_0_1_0_0011_0100_1010_1_01_0_0101, .movRsi .ge false 3 4 21 .lsr 5),
      (0b1010_000_1_1_1_0_0_0011_0100_1010_1_10_0_0101, .bicRsi .ge false 3 4 21 .asr 5),
      (0b1010_000_1_1_1_1_0_0011_0100_1010_1_11_0_0101, .mvnRsi .ge false 3 4 21 .ror 5)] : List (Word × Instr)).all (decodes .arm) = true := by decide

theorem test_decode_data_processing_rsr :
    ([
      (0b1011_000_0_0_0_0_1_0110_0111_1000_0_01_1_1001, .andRsr .lt true 6 7 8 .lsr 9),
      (0b1011_000_0_0_0_1_1_0110_0111_1000_0_10_1_1001, .eorRsr .lt true 6 7 8 .asr 9),
      (0b1011_000_0_0_1_0_1_0110_0111_1000_0_11_1_1001, .subRsr .lt true 6 7 8 .ror 9),
      (0b1011_000_0_0_1_1_1_0110_0111_1000_0_00_1_1001, .rsbRsr .lt true 6 7 8 .lsl 9),
      (0b1011_000_0_1_0_0_1_0110_0111_1000_0_01_1_1001, .addRsr .lt true 6 7 8 .lsr 9),
      (0b1011_000_0_1_0_1_1_0110_0111_1000_0_10_1_1001, .adcRsr .lt true 6 7 8 .asr 9),
      (0b1011_000_0_1_1_0_1_0110_0111_1000_0_11_1_1001, .sbcRsr .lt true 6 7 8 .ror 9),
      (0b1011_000_0_1_1_1_1_0110_0111_1000_0_00_1_1001, .rscRsr .lt true 6 7 8 .lsl 9),
      (0b1011_000_1_0_0_0_1_0110_0111_1000_0_01_1_1001, .tstRsr .lt 6 7 8 .lsr 9),
      (0b1011_000_1_0_0_1_1_0110_0111_1000_0_10_1_1001, .teqRsr .lt 6 7 8 .asr 9),
      (0b1011_000_1_0_1_0_1_0110_0111_1000_0_11_1_1001, .cmpRsr .lt 6 7 8 .ror 9),
      (0b1011_000_1_0_1_1_1_0110_0111_1000_0_00_1_1001, .cmnRsr .lt 6 7 8 .lsl 9),
      (0b1011_000_1_1_0_0_1_0110_0111_1000_0_01_1_1001, .orrRsr .lt true 6 7 8 .lsr 9),
      (0b1011_000_1_1_0_1_1_0110_0111_1000_0_10_1_1001, .movRsr .lt true 6 7 8 .asr 9),
      (0b1011_000_1_1_1_0_1_0110_0111_1000_0_11_1_1001, .bicRsr .lt true 6 7 8 .ror 9),
      (0b1011_000_1_1_1_1_1_0110_0111_1000_0_00_1_1001, .mvnRsr .lt true 6 7 8 .lsl 9)] : List (Word × Instr)).all (decodes .arm) = true := by decide

theorem test_decode_single_transfer :
    ([
      (0b1110_01_0_1_0_0_1_1_0001_0010_1001_1_01_0_0101, .ldrPre .al false true 1 2 (.imm 0x9A5)),
      (0b1110_01_1_1_1_0_0_1_0001_0010_1001_1_10_0_0011, .ldrPre .al true false 1 2 (.reg 19 .asr 3)),
      (0b1110_01_0_0_1_0_0_1_0001_0010_0000_0_00_0_0100, .ldrPost .al true 1 2 (.imm 4)),
      (0b1110_01_1_0_0_0_1_1_0001_0010_0000_1_11_0_0100, .ldrt .al false 1 2 (.reg 1 .ror 4)),
      (0b1110_01_0_1_0_0_1_0_0001_0010_1001_1_01_0_0101, .strPre .al false true 1 2 (.imm 0x9A5)),
      (0b1110_01_1_1_1_0_0_0_0001_0010_1001_1_10_0_0011, .strPre .al true false 1 2 (.reg 19 .asr 3)),
      (0b1110_01_0_0_1_0_0_0_0001_0010_0000_0_00_0_0100, .strPost .al true 1 2 (.imm 4)),
      (0b1110_01_1_0_0_0_1_0_0001_0010_0000_1_11_0_0100, .strt .al false 1 2 (.reg 1 .ror 4)),
      (0b1110_01_0_1_0_1_1_1_0001_0010_1001_1_01_0_0101, .ldrbPre .al false true 1 2 (.imm 0x9A5)),
      (0b1110_01_1_1_1_1_0_1_0001_0010_1001_1_10_0_0011, .ldrbPre .al true false 1 2 (.reg 19 .asr 3)),
      (0b1110_01_0_0_1_1_0_1_0001_0010_0000_0_00_0_0100, .ldrbPost .al true 1 2 (.imm 4)),
      (0b1110_01_1_0_0_1_1_1_0001_0010_0000_1_11_0_0100, .ldrbt .al false 1 2 (.reg 1 .ror 4)),
      (0b1110_01_0_1_0_1_1_0_0001_0010_1001_1_01_0_0101, .strbPre .al false true 1 2 (.imm 0x9A5)),
      (0b1110_01_1_1_1_1_0_0_0001_0010_1001_1_10_0_0011, .strbPre .al true false 1 2 (.reg 19 .asr 3)),
      (0b1110_01_0_0_1_1_0_0_0001_0010_0000_0_00_0_0100, .strbPost .al true 1 2 (.imm 4)),
      (0b1110_01_1_0_0_1_1_0_0001_0010_0000_1_11_0_0100, .strbt .al false 1 2 (.reg 1 .ror 4))] : List (Word × Instr)).all (decodes .arm) = true := by decide

theorem test_decode_block_transfer :
    ([
      (0b1110_100_1_0_1_0_1_1101_1000_0100_0_01_0_0001, .ldm .al true false true false 13 0x8421),
      (0b1110_100_0_1_0_1_0_1101_0001_0010_0_10_0_1000, .stm .al false true false true 13 0x1248)] : List (Word × Instr)).all (decodes .arm) = true := by decide

theorem test_decode_arm_branch :
    ([
      (0b0010_101_0_100000000000000000000001, .b .cs 0x800001),
      (0b1110_101_1_011111111111111111111110, .bl .al 0x7FFFFE),
      (0b1110_111_1_000001100000000100100011, .swi .al 0x060123)] : List (Word × Instr)).all (decodes .arm) = true := by decide

theorem test_decode_arm_anomaly :
    ([
      (0b1110_000_1_1_0_0_0_0001_0010_0000_1_00_1_0011, .undMulSwap 0xE1812093),
      (0b1110_000_1_1_1_0_0_0000_0000_0000_1_10_1_0000, .undHalfword 0xE1C000D0),
      (0b1110_000_1_0_0_1_0_1111_1111_1111_0_01_1_0000, .undPsr 0xE12FFF30),
      (0b1110_001_1_0_0_0_0_0000_0000_0000_0000_0000, .undMsrImm 0xE3000000),
      (0b1110_011_0_0_0_0_0_0000_0000_0000_0_00_1_0000, .und011 0xE6000010),
      (0b1110_110_0_0_0_0_0_0000_0000_0000_0_00_0_0000, .undCopTransfer 0xEC000000),
      (0b1110_111_0_000_0_0000_0000_0000_0_00_0_0000, .undCopOp 0xEE000000)] : List (Word × Instr)).all (decodes .arm) = true := by decide

theorem test_decode_thumb_shift_add :
    ([
      (0b000_00_10011_101_110, .tLslImm 19 5 6),
      (0b000_01_10011_101_110, .tLsrImm 19 5 6),
      (0b000_10_10011_101_110, .tAsrImm 19 5 6),
      (0b00011_0_0_011_101_110, .tAddReg 3 5 6),
      (0b00011_0_1_011_101_110, .tSubReg 3 5 6),
      (0b00011_1_0_011_101_110, .tAddImm3 3 5 6),
      (0b00011_1_1_011_101_110, .tSubImm3 3 5 6)] : List (Half × Instr)).all (decodes .thumb) = true := by decide

theorem test_decode_thumb_immediate :
    ([
      (0b001_00_101_10100111, .tMovImm 5 0xA7),
      (0b001_01_101_10100111, .tCmpImm 5 0xA7),
      (0b001_10_101_10100111, .tAddImm8 5 0xA7),
      (0b001_11_101_10100111, .tSubImm8 5 0xA7)] : List (Half × Instr)).all (decodes .thumb) = true := by decide

theorem test_decode_thumb_alu :
    ([
      (0b010000_0000_101_110, .tAnd 5 6),
      (0b010000_0001_101_110, .tEor 5 6),
      (0b010000_0010_101_110, .tLslReg 5 6),
      (0b010000_0011_101_110, .tLsrReg 5 6),
      (0b010000_0100_101_110, .tAsrReg 5 6),
      (0b010000_0101_101_110, .tAdc 5 6),
      (0b010000_0110_101_110, .tSbc 5 6),
      (0b010000_0111_101_110, .tRor 5 6),
      (0b010000_1000_101_110, .tTst 5 6),
      (0b010000_1001_101_110, .tNeg 5 6),
      (0b010000_1010_101_110, .tCmpReg 5 6),
      (0b010000_1011_101_110, .tCmn 5 6),
      (0b010000_1100_101_110, .tOrr 5 6),
      (0b010000_1101_101_110, .tMul 5 6),
      (0b010000_1110_101_110, .tBic 5 6),
      (0b010000_1111_101_110, .tMvn 5 6)] : List (Half × Instr)).all (decodes .thumb) = true := by decide

theorem test_decode_thumb_high :
    ([
      (0b010001_00_0_1_101_110, .tAddHi 13 6),
      (0b010001_01_1_0_101_110, .tCmpHi 5 14),
      (0b010001_10_1_1_101_110, .tMovHi 13 14),
      (0b010001_11_0_1_110_000, .tBx false 14 0),
      (0b010001_11_1_0_110_011, .tBx true 6 3)] : List (Half × Instr)).all (decodes .thumb) = true := by decide

theorem test_decode_thumb_load_store :
    ([
      (0b01001_101_10100111, .tLdrPc 5 0xA7),
      (0b0101_0_0_0_011_101_110, .tStrReg 3 5 6),
      (0b0101_0_1_0_011_101_110, .tStrbReg 3 5 6),
      (0b0101_1_0_0_011_101_110, .tLdrReg 3 5 6),
      (0b0101_1_1_0_011_101_110, .tLdrbReg 3 5 6),
      (0b0101_0_0_1_011_101_110, .tStrhReg 3 5 6),
      (0b0101_1_0_1_011_101_110, .tLdrhReg 3 5 6),
      (0b0101_0_1_1_011_101_110, .tLdsb 3 5 6),
      (0b0101_1_1_1_011_101_110, .tLdsh 3 5 6),
      (0b011_0_0_10011_101_110, .tStrImm 19 5 6),
      (0b011_0_1_10011_101_110, .tLdrImm 19 5 6),
      (0b011_1_0_10011_101_110, .tStrbImm 19 5 6),
      (0b011_1_1_10011_101_110, .tLdrbImm 19 5 6),
      (0b1000_0_10011_101_110, .tStrhImm 19 5 6),
      (0b1000_1_10011_101_110, .tLdrhImm 19 5 6),
      (0b1001_0_101_10100111, .tStrSp 5 0xA7),
      (0b1001_1_101_10100111, .tLdrSp 5 0xA7)] : List (Half × Instr)).all (decodes .thumb) = true := by decide

theorem test_decode_thumb_address_stack :
    ([
      (0b1010_0_101_10100111, .tAddPc 5 0xA7),
      (0b1010_1_101_10100111, .tAddSp 5 0xA7),
      (0b10110000_0_1010011, .tAddSpImm 0x53),
      (0b10110000_1_1010011, .tSubSpImm 0x53),
      (0b1011_0_10_1_10010101, .tPush true 0x95),
      (0b1011_1_10_0_10010101, .tPop false 0x95),
      (0b1100_0_101_10010101, .tStmia 5 0x95),
      (0b1100_1_101_10010101, .tLdmia 5 0x95)] : List (Half × Instr)).all (decodes .thumb) = true := by decide

theorem test_decode_thumb_branch :
    ([
      (0b1101_1101_10010101, .tBcond .le 0x95),
      (0b11011111_10010101, .tSwi 0x95),
      (0b11100_10010010101, .tB 0x495),
      (0b1111_0_10010010101, .tBlHi 0x495),
      (0b1111_1_10010010101, .tBlLo 0x495)] : List (Half × Instr)).all (decodes .thumb) = true := by decide

theorem test_decode_thumb_anomaly :
    ([
      (0b1011_0001_00000000, .tUndB1 0xB100),
      (0b1011_0010_00000000, .tUndB2 0xB200),
      (0b1011_0110_00000000, .tUndB6 0xB600),
      (0b1011_1000_00000000, .tUndB8 0xB800),
      (0b1011_1110_00000000, .tUndBE 0xBE00),
      (0b1101_1110_00000000, .tUndDE 0xDE00),
      (0b1110_1000_00000000, .tUndE8 0xE800)] : List (Half × Instr)).all (decodes .thumb) = true := by decide
/-! ### Well-formedness: each check refuses a term that no word holds -/

/-- Words of other rows: MUL, UMULL, SWP and a data-processing word (30 R306 step 1). -/
theorem test_wf_und_mul_swap :
    ([0xE0000291, 0xE0810392, 0xE1020091, 0xE0810002] : List Word).all (fun w => !Instr.wf (.undMulSwap w)) = true := by
  decide

/-- STRH, and an LDRSB (30 R306 step 2). -/
theorem test_wf_und_halfword :
    ([0xE1C100B2, 0xE1D100D0] : List Word).all (fun w => !Instr.wf (.undHalfword w)) = true := by decide

/-- MRS, MSR, BX, SWP, STRH and TST (30 R306 steps 1 to 3). -/
theorem test_wf_und_psr :
    ([0xE10F0000, 0xE129F000, 0xE12FFF10, 0xE1020091, 0xE14000B0, 0xE1110002] : List Word).all
      (fun w => !Instr.wf (.undPsr w)) = true := by decide

/-- MSR immediate, and TST immediate (30 R306 step 4). -/
theorem test_wf_und_msr_imm :
    ([0xE328F20F, 0xE3110102] : List Word).all (fun w => !Instr.wf (.undMsrImm w)) = true := by decide

/-- An LDR with a register offset (30 R306 step 6). -/
theorem test_wf_und_011 : Instr.wf (.und011 0xE7910102) = false := by decide

/-- A branch and an SWI are no coprocessor words (30 R306 step 10). -/
theorem test_wf_und_cop :
    Instr.wf (.undCopTransfer 0xEA000000) = false ∧ Instr.wf (.undCopOp 0xEF000000) = false := by decide

/-- A halfword just outside each reserved Thumb row (30 R321). -/
theorem test_wf_thumb_anomalies :
    Instr.wf (.tUndB1 0xB0FF) = false ∧ Instr.wf (.tUndB2 0xB400) = false ∧ Instr.wf (.tUndB6 0xB5FF) = false ∧
      Instr.wf (.tUndB8 0xBC00) = false ∧ Instr.wf (.tUndBE 0xBDFF) = false ∧ Instr.wf (.tUndDE 0xDF00) = false ∧
      Instr.wf (.tUndE8 0xF000) = false := by decide

/-- Codes 1110 and 1111 are no conditions of a Thumb branch (30 R307, format 16). -/
theorem test_wf_thumb_branch : Instr.wf (.tBcond .al 0) = false ∧ Instr.wf (.tBcond .nv 0) = false := by decide

/-! ### One step -/

/-- The reset state with a CPSR, the current SPSR, registers of that mode and words in memory. -/
def start (cpsr : Word) (spsr : Option Word) (regs : List (Reg × Word)) (mem : List (Word × Word)) : State :=
  let s : State := match (Psr.ofWord cpsr).toCpsr? with
    | none => State.reset
    | some c => State.reset.setCpsr c
  let s := match spsr, s.cpsr.mode.exc? with
    | some w, some e => s.setSpsr e (Psr.ofWord w)
    | _, _ => s
  let s := regs.foldl (fun t e => t.setReg e.1 e.2) s
  mem.foldl (fun t e => t.memWrite e.1 .b4 e.2) s

/-- The instruction of a word, run as the next step. -/
def run (thumb : Bool) (w : Nat) (s : State) : Host.Outcome State Fault Refusal :=
  step (s.withFetchWord (if thumb then 16 else 32) w)

/-- The step answers a next state with a property. -/
def gives (o : Host.Outcome State Fault Refusal) (p : State → Bool) : Bool :=
  match o with
  | .next t => p t
  | .fault _ => false
  | .refused _ => false

/-- One vector of spec/95: what the step changes, its PC and CPSR; in the same mode every other register is unchanged. -/
def vec (thumb : Bool) (w : Nat) (cpsr : Word) (spsr : Option Word) (regs : List (Reg × Word)) (mem : List (Word × Word))
    (changed : List (Reg × Word)) (pc cpsr' : Word) (mem' : List (Word × Word)) : Bool :=
  gives (run thumb w (start cpsr spsr regs mem)) fun t =>
    t.pc = pc && t.cpsr.toWord = cpsr' && changed.all (fun e => reg t e.1 = e.2) &&
      mem'.all (fun e => t.memRead e.1 .b4 = e.2) &&
      (t.cpsr.mode ≠ (start cpsr spsr [] []).cpsr.mode ||
        (List.finRange 15).all fun n =>
          changed.any (fun e => e.1.val = n.val) || reg t n.castSucc = reg (start cpsr spsr regs []) n.castSucc)

/-- One vector of spec/95 that faults. -/
def stops (thumb : Bool) (w : Nat) (cpsr : Word) (spsr : Option Word) (regs : List (Reg × Word)) (f : Fault) : Bool :=
  match run thumb w (start cpsr spsr regs []) with
  | .next _ => false
  | .fault g => f = g
  | .refused _ => false

/-- spec/95 V40.1 to V40.17. -/
theorem test_data_processing_1 : (
    vec false 0xE0910002 0x1F none [(1, 0xFFFFFFFF), (2, 0x1)] [] [] 0x8000004 0x6000001F [] &&
    vec false 0xE0910002 0x1F none [(1, 0x7FFFFFFF), (2, 0x1)] [] [(0, 0x80000000)] 0x8000004 0x9000001F [] &&
    vec false 0xE0510002 0x1F none [(1, 0x0), (2, 0x1)] [] [(0, 0xFFFFFFFF)] 0x8000004 0x8000001F [] &&
    vec false 0xE0510002 0x1F none [(1, 0x80000000), (2, 0x1)] [] [(0, 0x7FFFFFFF)] 0x8000004 0x3000001F [] &&
    vec false 0xE2710000 0x1F none [(1, 0x1)] [] [(0, 0xFFFFFFFF)] 0x8000004 0x8000001F [] &&
    vec false 0xE0B10002 0x2000001F none [(1, 0xFFFFFFFF), (2, 0x0)] [] [] 0x8000004 0x6000001F [] &&
    vec false 0xE0D10002 0x1F none [(1, 0x5), (2, 0x5)] [] [(0, 0xFFFFFFFF)] 0x8000004 0x8000001F [] &&
    vec false 0xE0D10002 0x2000001F none [(1, 0x5), (2, 0x5)] [] [] 0x8000004 0x6000001F [] &&
    vec false 0xE0F10002 0x2000001F none [(1, 0x1), (2, 0x3)] [] [(0, 0x2)] 0x8000004 0x2000001F [] &&
    vec false 0xE1B00001 0x2000001F none [(1, 0x80000000)] [] [(0, 0x80000000)] 0x8000004 0xA000001F [] &&
    vec false 0xE1B00081 0x1F none [(1, 0x80000001)] [] [(0, 0x2)] 0x8000004 0x2000001F [] &&
    vec false 0xE1B00211 0x1F none [(1, 0x1), (2, 0x20)] [] [] 0x8000004 0x6000001F []) = true := by decide

/-- spec/95 V40.18 to V40.35. -/
theorem test_data_processing_2 : (
    vec false 0xE1B00211 0x2000001F none [(1, 0x1), (2, 0x21)] [] [] 0x8000004 0x4000001F [] &&
    vec false 0xE3B00102 0x1F none [] [] [(0, 0x80000000)] 0x8000004 0xA000001F [] &&
    vec false 0xE3B000FF 0x2000001F none [] [] [(0, 0xFF)] 0x8000004 0x2000001F [] &&
    vec false 0xE211020F 0x1F none [(1, 0x12345678)] [] [(0, 0x10000000)] 0x8000004 0x2000001F [] &&
    vec false 0xE0210002 0x1F none [(1, 0xFF00FF00), (2, 0xFF00FF0)] [] [(0, 0xF0F0F0F0)] 0x8000004 0x1F [] &&
    vec false 0xE381001F 0x1F none [(1, 0x7C00)] [] [(0, 0x7C1F)] 0x8000004 0x1F [] &&
    vec false 0xE3C100FF 0x1F none [(1, 0x12345678)] [] [(0, 0x12345600)] 0x8000004 0x1F [] &&
    vec false 0xE3F00000 0x1F none [] [] [(0, 0xFFFFFFFF)] 0x8000004 0x8000001F [] &&
    vec false 0xE3100001 0x1F none [(0, 0x2)] [] [] 0x8000004 0x4000001F [] &&
    vec false 0xE1300001 0x1F none [(0, 0x80000000), (1, 0x80000000)] [] [] 0x8000004 0x4000001F [] &&
    vec false 0xE1500001 0x1F none [(0, 0x1), (1, 0x2)] [] [] 0x8000004 0x8000001F [] &&
    vec false 0xE1500001 0x1F none [(0, 0x5), (1, 0x5)] [] [] 0x8000004 0x6000001F []) = true := by decide

/-- spec/95 V40.36 to V40.48. -/
theorem test_data_processing_3 : (
    vec false 0xE1700001 0x1F none [(0, 0xFFFFFFFF), (1, 0x1)] [] [] 0x8000004 0x6000001F [] &&
    vec false 0xE28F0000 0x1F none [] [] [(0, 0x8000008)] 0x8000004 0x1F [] &&
    vec false 0x12800001 0x4000001F none [] [] [] 0x8000004 0x4000001F [] &&
    vec false 0xE10F0000 0xA000001F none [] [] [(0, 0xA000001F)] 0x8000004 0xA000001F [] &&
    vec false 0xE14F0000 0x12 (some 0x6000001f) [] [] [(0, 0x6000001F)] 0x8000004 0x12 [] &&
    vec false 0xE328F20F 0x1F none [] [] [] 0x8000004 0xF000001F [] &&
    vec false 0xE121F000 0x1F none [(0, 0xD2)] [] [(13, 0x3007FA0)] 0x8000004 0xD2 [] &&
    vec false 0xE121F000 0x10 none [(0, 0x1F)] [] [] 0x8000004 0x10 []) = true := by decide

/-- spec/95, the faults of its section 40. -/
theorem test_data_processing_faults : (
    stops false 0xE1A0011F 0x1F none [(1, 0x0)] .dpRegshiftR15 &&
    stops false 0xE1B0F00E 0x1F none [(14, 0x8000200)] .noSpsrRestore &&
    stops false 0xE121F000 0x1F none [(0, 0x3F)] .msrTChange &&
    stops false 0xE121F000 0x1F none [(0, 0x0)] .invalidMode &&
    stops false 0xE168F000 0x1F none [(0, 0x0)] .noSpsr) = true := by decide

/-- spec/95 V41.1 to V41.10. -/
theorem test_multiply_1 : (
    vec false 0xE0000291 0x1F none [(1, 0xFFFFFFFF), (2, 0x2)] [] [(0, 0xFFFFFFFE)] 0x8000004 0x1F [] &&
    vec false 0xE0203291 0x1F none [(1, 0x3), (2, 0x4), (3, 0x5)] [] [(0, 0x11)] 0x8000004 0x1F [] &&
    vec false 0xE0810392 0x1F none [(2, 0xFFFFFFFF), (3, 0xFFFFFFFF)] [] [(0, 0x1), (1, 0xFFFFFFFE)] 0x8000004 0x1F [] &&
    vec false 0xE0C10392 0x1F none [(2, 0xFFFFFFFF), (3, 0xFFFFFFFF)] [] [(0, 0x1)] 0x8000004 0x1F [] &&
    vec false 0xE0C10392 0x1F none [(2, 0x80000000), (3, 0x2)] [] [(1, 0xFFFFFFFF)] 0x8000004 0x1F [] &&
    vec false 0xE0A10392 0x1F none [(0, 0xFFFFFFFF), (1, 0x0), (2, 0x1), (3, 0x1)] [] [(0, 0x0), (1, 0x1)] 0x8000004 0x1F [] &&
    vec false 0xE0000091 0x1F none [(0, 0x2), (1, 0x3)] [] [(0, 0x6)] 0x8000004 0x1F []) = true := by decide

/-- spec/95, the faults of its section 41. -/
theorem test_multiply_faults : (
    stops false 0xE0000190 0x1F none [(0, 0x2), (1, 0x3)] .mulRdEqRm &&
    stops false 0xE0800392 0x1F none [(2, 0x1), (3, 0x1)] .mullRegOverlap &&
    stops false 0xE00F0291 0x1F none [(1, 0x1), (2, 0x1)] .mulR15) = true := by decide

/-- spec/95 V42.1 to V42.23. -/
theorem test_load_store_1 : (
    vec false 0xE5910000 0x1F none [(1, 0x3000000)] [(0x3000000, 0x11223344)] [(0, 0x11223344)] 0x8000004 0x1F [] &&
    vec false 0xE5910001 0x1F none [(1, 0x3000000)] [(0x3000000, 0x11223344)] [(0, 0x44112233)] 0x8000004 0x1F [] &&
    vec false 0xE5D10003 0x1F none [(1, 0x3000000)] [(0x3000000, 0x11223344)] [(0, 0x11)] 0x8000004 0x1F [] &&
    vec false 0xE4910004 0x1F none [(1, 0x3000000)] [(0x3000000, 0x11223344)] [(0, 0x11223344), (1, 0x3000004)] 0x8000004 0x1F [] &&
    vec false 0xE5010004 0x1F none [(0, 0xDEADBEEF), (1, 0x3000004)] [] [] 0x8000004 0x1F [(0x3000000, 0xDEADBEEF)] &&
    vec false 0xE5810002 0x1F none [(0, 0xDEADBEEF), (1, 0x3000000)] [] [] 0x8000004 0x1F [(0x3000000, 0xDEADBEEF)] &&
    vec false 0xE5C10001 0x1F none [(0, 0x1FF), (1, 0x3000000)] [(0x3000000, 0x11223344)] [] 0x8000004 0x1F [(0x3000000, 0x1122FF44)] &&
    vec false 0xE1D100B2 0x1F none [(1, 0x3000000)] [(0x3000000, 0x11223344)] [(0, 0x1122)] 0x8000004 0x1F [] &&
    vec false 0xE1D100D1 0x1F none [(1, 0x3000000)] [(0x3000000, 0x8000)] [(0, 0xFFFFFF80)] 0x8000004 0x1F [] &&
    vec false 0xE1D100F0 0x1F none [(1, 0x3000000)] [(0x3000000, 0x8001)] [(0, 0xFFFF8001)] 0x8000004 0x1F [] &&
    vec false 0xE1C100B2 0x1F none [(0, 0xABCD1234), (1, 0x3000000)] [(0x3000000, 0x11223344)] [] 0x8000004 0x1F [(0x3000000, 0x12343344)] &&
    vec false 0xE0D100B2 0x1F none [(1, 0x3000000)] [(0x3000000, 0x11223344)] [(0, 0x3344), (1, 0x3000002)] 0x8000004 0x1F []) = true := by decide

/-- spec/95 V42.26 to V42.41. -/
theorem test_load_store_2 : (
    vec false 0xE8B0000E 0x1F none [(0, 0x3000000)] [(0x3000000, 0xA), (0x3000004, 0xB), (0x3000008, 0xC)] [(0, 0x300000C), (1, 0xA), (2, 0xB), (3, 0xC)] 0x8000004 0x1F [] &&
    vec false 0xE9900006 0x1F none [(0, 0x2FFFFFC)] [(0x3000000, 0xA), (0x3000004, 0xB), (0x3000008, 0xC)] [(1, 0xA), (2, 0xB)] 0x8000004 0x1F [] &&
    vec false 0xE92D4003 0x1F none [(0, 0x1), (1, 0x2), (14, 0x3)] [] [(13, 0x3007EF4)] 0x8000004 0x1F [(0x3007EF4, 0x1), (0x3007EF8, 0x2), (0x3007EFC, 0x3)] &&
    vec false 0xE8A00003 0x1F none [(0, 0x3000000), (1, 0x7)] [] [(0, 0x3000008)] 0x8000004 0x1F [(0x3000000, 0x3000000), (0x3000004, 0x7)] &&
    vec false 0xE1020091 0x1F none [(1, 0x99), (2, 0x3000000)] [(0x3000000, 0x11223344)] [(0, 0x11223344)] 0x8000004 0x1F [(0x3000000, 0x99)] &&
    vec false 0xE1020091 0x1F none [(1, 0x99), (2, 0x3000001)] [(0x3000000, 0x11223344)] [(0, 0x44112233)] 0x8000004 0x1F [(0x3000000, 0x99)] &&
    vec false 0xE1420091 0x1F none [(1, 0x1AB), (2, 0x3000001)] [(0x3000000, 0x11223344)] [(0, 0x33)] 0x8000004 0x1F [(0x3000000, 0x1122AB44)]) = true := by decide

/-- spec/95, the faults of its section 42. -/
theorem test_load_store_faults : (
    stops false 0xE5B11004 0x1F none [(1, 0x3000000)] .ldWbRnEqRd &&
    stops false 0xE1D100B1 0x1F none [(1, 0x3000000)] .hwMisaligned &&
    stops false 0xE0F100B2 0x1F none [(1, 0x3000000)] .hwPostWriteback &&
    stops false 0xE8B00003 0x1F none [(0, 0x3000000)] .ldmWbRnInList &&
    stops false 0xE8900000 0x1F none [(0, 0x3000000)] .ldmStmEmptyList) = true := by decide

/-- spec/95 V43.1 to V43.14. -/
theorem test_branch_system_1 : (
    vec false 0xEA000002 0x1F none [] [] [] 0x8000010 0x1F [] &&
    vec false 0xEAFFFFFE 0x1F none [] [] [] 0x8000000 0x1F [] &&
    vec false 0xEB00003E 0x1F none [] [] [(14, 0x8000004)] 0x8000100 0x1F [] &&
    vec false 0x1B00003E 0x4000001F none [] [] [] 0x8000004 0x4000001F [] &&
    vec false 0xE12FFF10 0x1F none [(0, 0x8000101)] [] [] 0x8000100 0x3F [] &&
    vec false 0xE12FFF10 0x1F none [(0, 0x8000200)] [] [] 0x8000200 0x1F [] &&
    vec false 0xEF060000 0x1F none [(0, 0x64), (1, 0x7)] [] [(0, 0xE), (1, 0x2), (3, 0xE)] 0x8000004 0x1F [] &&
    vec false 0xEF060000 0x1F none [(0, 0xFFFFFFF9), (1, 0x0)] [] [(0, 0xFFFFFFFF), (1, 0xFFFFFFF9), (3, 0x1)] 0x8000004 0x1F [] &&
    vec false 0xEE000000 0x1F none [] [] [] 0x8000004 0x1F [] &&
    vec false 0xE7F000F0 0x1F none [] [] [] 0x8000004 0x1F []) = true := by decide

/-- spec/95, the faults of its section 43. -/
theorem test_branch_system_faults : (
    stops false 0xE12FFF10 0x1F none [(0, 0x8000202)] .bxArmMisaligned) = true := by decide

/-- spec/95 V44.1 to V44.12. -/
theorem test_thumb_alu_1 : (
    vec true 0x8 0x2000003F none [(1, 0x80000000)] [] [(0, 0x80000000)] 0x8000002 0xA000003F [] &&
    vec true 0x7C8 0x3F none [(1, 0x3)] [] [(0, 0x80000000)] 0x8000002 0xA000003F [] &&
    vec true 0x808 0x3F none [(1, 0x80000000)] [] [] 0x8000002 0x6000003F [] &&
    vec true 0x1008 0x3F none [(1, 0x40000000)] [] [] 0x8000002 0x4000003F [] &&
    vec true 0x1888 0x3F none [(1, 0xFFFFFFFE), (2, 0x2)] [] [] 0x8000002 0x6000003F [] &&
    vec true 0x1FC8 0x3F none [(1, 0x7)] [] [] 0x8000002 0x6000003F [] &&
    vec true 0x1C08 0x3000003F none [(1, 0x80000000)] [] [(0, 0x80000000)] 0x8000002 0x8000003F [] &&
    vec true 0x2300 0xA000003F none [(3, 0x5)] [] [(3, 0x0)] 0x8000002 0x6000003F [] &&
    vec true 0x2BFF 0x3F none [(3, 0xFF)] [] [] 0x8000002 0x6000003F [] &&
    vec true 0x3301 0x3F none [(3, 0x7FFFFFFF)] [] [(3, 0x80000000)] 0x8000002 0x9000003F [] &&
    vec true 0x3B01 0x3F none [(3, 0x0)] [] [(3, 0xFFFFFFFF)] 0x8000002 0x8000003F [] &&
    vec true 0x4008 0x3F none [(0, 0xFF00), (1, 0xF0F0)] [] [(0, 0xF000)] 0x8000002 0x3F []) = true := by decide

/-- spec/95 V44.13 to V44.24. -/
theorem test_thumb_alu_2 : (
    vec true 0x4048 0x3F none [(0, 0xFFFFFFFF), (1, 0xFFFFFFFF)] [] [(0, 0x0)] 0x8000002 0x4000003F [] &&
    vec true 0x4088 0x3F none [(0, 0x1), (1, 0x20)] [] [(0, 0x0)] 0x8000002 0x6000003F [] &&
    vec true 0x4088 0x2000003F none [(0, 0x80000000), (1, 0x0)] [] [] 0x8000002 0xA000003F [] &&
    vec true 0x40C8 0x2000003F none [(0, 0x80000000), (1, 0x21)] [] [(0, 0x0)] 0x8000002 0x4000003F [] &&
    vec true 0x4108 0x3F none [(0, 0x80000000), (1, 0x28)] [] [(0, 0xFFFFFFFF)] 0x8000002 0xA000003F [] &&
    vec true 0x4148 0x2000003F none [(0, 0xFFFFFFFF), (1, 0x0)] [] [(0, 0x0)] 0x8000002 0x6000003F [] &&
    vec true 0x4188 0x3F none [(0, 0x1), (1, 0x1)] [] [(0, 0xFFFFFFFF)] 0x8000002 0x8000003F [] &&
    vec true 0x41C8 0x3F none [(0, 0xF), (1, 0x4)] [] [(0, 0xF0000000)] 0x8000002 0xA000003F [] &&
    vec true 0x41C8 0x3F none [(0, 0x80000001), (1, 0x40)] [] [] 0x8000002 0xA000003F [] &&
    vec true 0x4208 0x3F none [(0, 0x80000001), (1, 0x80000000)] [] [] 0x8000002 0x8000003F [] &&
    vec true 0x4248 0x3F none [(0, 0x0), (1, 0x80000000)] [] [(0, 0x80000000)] 0x8000002 0x9000003F [] &&
    vec true 0x4248 0x3F none [(0, 0x5), (1, 0x0)] [] [(0, 0x0)] 0x8000002 0x6000003F []) = true := by decide

/-- spec/95 V44.25 to V44.39. -/
theorem test_thumb_alu_3 : (
    vec true 0x4288 0x3F none [(0, 0x7FFFFFFF), (1, 0x80000000)] [] [] 0x8000002 0x9000003F [] &&
    vec true 0x42C8 0x3F none [(0, 0xFFFFFFFF), (1, 0x1)] [] [] 0x8000002 0x6000003F [] &&
    vec true 0x4308 0x3F none [(0, 0xF0), (1, 0xF)] [] [(0, 0xFF)] 0x8000002 0x3F [] &&
    vec true 0x4388 0x3F none [(0, 0x1FF), (1, 0xFF)] [] [(0, 0x100)] 0x8000002 0x3F [] &&
    vec true 0x43C8 0x3F none [(0, 0x0), (1, 0xFFFF0000)] [] [(0, 0xFFFF)] 0x8000002 0x3F [] &&
    vec true 0x4480 0x3F none [(0, 0x1), (8, 0xFFFFFFFF)] [] [(8, 0x0)] 0x8000002 0x3F [] &&
    vec true 0x4478 0x3F none [(0, 0x1)] [] [(0, 0x8000005)] 0x8000002 0x3F [] &&
    vec true 0x45C8 0x3F none [(8, 0x0), (9, 0x1)] [] [] 0x8000002 0x8000003F [] &&
    vec true 0x4680 0x3F none [(0, 0x1234)] [] [(8, 0x1234)] 0x8000002 0x3F [] &&
    vec true 0x4687 0x3F none [(0, 0x8000201)] [] [] 0x8000200 0x3F [] &&
    vec true 0x4700 0x3F none [(0, 0x8000200)] [] [] 0x8000200 0x1F [] &&
    vec true 0x4700 0x3F none [(0, 0x8000201)] [] [] 0x8000200 0x3F []) = true := by decide

/-- spec/95 V44.42 to V44.45. -/
theorem test_thumb_alu_4 : (
    vec true 0xA001 0x3F none [] [] [(0, 0x8000008)] 0x8000002 0x3F [] &&
    vec true 0xA8FF 0x3F none [] [] [(0, 0x30082FC)] 0x8000002 0x3F [] &&
    vec true 0xB081 0x3F none [] [] [(13, 0x3007EFC)] 0x8000002 0x3F [] &&
    vec true 0xB07F 0x3F none [] [] [(13, 0x30080FC)] 0x8000002 0x3F []) = true := by decide

/-- spec/95, the faults of its section 44. -/
theorem test_thumb_alu_faults : (
    stops true 0x4340 0x3F none [(0, 0x3)] .mulRdEqRm &&
    stops true 0x4408 0x3F none [(0, 0x1), (1, 0x2)] .thumbHiLoLo &&
    stops true 0x4700 0x3F none [(0, 0x8000202)] .bxArmMisaligned) = true := by decide

/-- spec/95 V45.3 to V45.15. -/
theorem test_thumb_load_store_1 : (
    vec true 0x5088 0x3F none [(0, 0xAABBCCDD), (1, 0x3000000), (2, 0x4)] [] [] 0x8000002 0x3F [(0x3000004, 0xAABBCCDD)] &&
    vec true 0x5488 0x3F none [(0, 0xAABBCCDD), (1, 0x3000000), (2, 0x3)] [] [] 0x8000002 0x3F [(0x3000000, 0xDD000000)] &&
    vec true 0x5888 0x3F none [(1, 0x3000000), (2, 0x2)] [(0x3000000, 0x11223344)] [(0, 0x33441122)] 0x8000002 0x3F [] &&
    vec true 0x5C88 0x3F none [(1, 0x3000000), (2, 0x2)] [(0x3000000, 0x11223344)] [(0, 0x22)] 0x8000002 0x3F [] &&
    vec true 0x5288 0x3F none [(0, 0x12345678), (1, 0x3000000), (2, 0x2)] [(0x3000000, 0x11223344)] [] 0x8000002 0x3F [(0x3000000, 0x56783344)] &&
    vec true 0x5A88 0x3F none [(1, 0x3000000), (2, 0x2)] [(0x3000000, 0x81223344)] [(0, 0x8122)] 0x8000002 0x3F [] &&
    vec true 0x5688 0x3F none [(1, 0x3000000), (2, 0x3)] [(0x3000000, 0x81223344)] [(0, 0xFFFFFF81)] 0x8000002 0x3F [] &&
    vec true 0x5E88 0x3F none [(1, 0x3000000), (2, 0x2)] [(0x3000000, 0x81223344)] [(0, 0xFFFF8122)] 0x8000002 0x3F [] &&
    vec true 0x67C8 0x3F none [(0, 0x7), (1, 0x3000000)] [] [] 0x8000002 0x3F [(0x300007C, 0x7)] &&
    vec true 0x6848 0x3F none [(1, 0x3000000)] [(0x3000004, 0x99)] [(0, 0x99)] 0x8000002 0x3F [] &&
    vec true 0x77C8 0x3F none [(0, 0x1EE), (1, 0x3000000)] [] [] 0x8000002 0x3F [(0x300001C, 0xEE000000)] &&
    vec true 0x7FC8 0x3F none [(1, 0x3000000)] [(0x300001C, 0xAB000000)] [(0, 0xAB)] 0x8000002 0x3F []) = true := by decide

/-- spec/95 V45.16 to V45.26. -/
theorem test_thumb_load_store_2 : (
    vec true 0x87C8 0x3F none [(0, 0xFFFF1234), (1, 0x3000000)] [] [] 0x8000002 0x3F [(0x300003C, 0x12340000)] &&
    vec true 0x8848 0x3F none [(1, 0x3000000)] [(0x3000000, 0xBEEF0000)] [(0, 0xBEEF)] 0x8000002 0x3F [] &&
    vec true 0x9002 0x3F none [(0, 0x42)] [] [] 0x8000002 0x3F [(0x3007F08, 0x42)] &&
    vec true 0x98FF 0x3F none [(13, 0x3000000)] [(0x30003FC, 0x77)] [(0, 0x77)] 0x8000002 0x3F [] &&
    vec true 0xB503 0x3F none [(0, 0x1), (1, 0x2), (14, 0x8000101)] [] [(13, 0x3007EF4)] 0x8000002 0x3F [(0x3007EF4, 0x1), (0x3007EF8, 0x2), (0x3007EFC, 0x8000101)] &&
    vec true 0xBD01 0x3F none [(13, 0x3000000)] [(0x3000000, 0x11), (0x3000004, 0x8000201)] [(0, 0x11), (13, 0x3000008)] 0x8000200 0x3F [] &&
    vec true 0xC006 0x3F none [(0, 0x3000000), (1, 0x5), (2, 0x6)] [] [(0, 0x3000008)] 0x8000002 0x3F [(0x3000000, 0x5), (0x3000004, 0x6)] &&
    vec true 0xC003 0x3F none [(0, 0x3000000), (1, 0x6)] [] [(0, 0x3000008)] 0x8000002 0x3F [(0x3000000, 0x3000000), (0x3000004, 0x6)] &&
    vec true 0xC806 0x3F none [(0, 0x3000000)] [(0x3000000, 0xA), (0x3000004, 0xB)] [(0, 0x3000008), (1, 0xA), (2, 0xB)] 0x8000002 0x3F [] &&
    vec true 0xC803 0x3F none [(0, 0x3000000)] [(0x3000000, 0xA), (0x3000004, 0xB)] [(0, 0xA), (1, 0xB)] 0x8000002 0x3F []) = true := by decide

/-- spec/95, the faults of its section 45. -/
theorem test_thumb_load_store_faults : (
    stops true 0x5E88 0x3F none [(1, 0x3000000), (2, 0x1)] .hwMisaligned &&
    stops true 0xB400 0x3F none [] .ldmStmEmptyList &&
    stops true 0xC800 0x3F none [(0, 0x3000000)] .ldmStmEmptyList) = true := by decide

/-- spec/95 V46.1 to V46.11. -/
theorem test_thumb_branch_1 : (
    vec true 0xD002 0x4000003F none [] [] [] 0x8000008 0x4000003F [] &&
    vec true 0xD002 0x3F none [] [] [] 0x8000002 0x3F [] &&
    vec true 0xE7FE 0x3F none [] [] [] 0x8000000 0x3F [] &&
    vec true 0xE3FF 0x3F none [] [] [] 0x8000802 0x3F [] &&
    vec true 0xF000 0x3F none [] [] [(14, 0x8000004)] 0x8000002 0x3F [] &&
    vec true 0xF801 0x3F none [(14, 0x8001000)] [] [(14, 0x8000003)] 0x8001002 0x3F [] &&
    vec true 0xDF06 0x3F none [(0, 0xFFFFFFF9), (1, 0x2)] [] [(0, 0xFFFFFFFD), (1, 0xFFFFFFFF), (3, 0x3)] 0x8000002 0x3F [] &&
    vec true 0xDF0B 0x3F none [(0, 0x3000000), (1, 0x3000010), (2, 0x5000002)] [(0x3000000, 0x5A5A5A5A)] [] 0x8000002 0x3F [(0x3000010, 0x5A5A5A5A), (0x3000014, 0x5A5A5A5A), (0x3000018, 0x0)]) = true := by decide
/-! ### The three operand forms, by hand from 40 R413 to R428: R1 = 0x0F, the operand 0x3C, C = 1 -/

/-- The sixteen results, with N and C after the S form: the shifter's carry for the logical ones. -/
def dpTable (f : DpForm) (shc : Bool) : Bool :=
  ([(.and, 0x0C, false, shc), (.eor, 0x33, false, shc), (.sub, 0xFFFFFFD3, true, false), (.rsb, 0x2D, false, true),
    (.add, 0x4B, false, false), (.adc, 0x4C, false, false), (.sbc, 0xFFFFFFD3, true, false), (.rsc, 0x2D, false, true),
    (.tst, 0, false, shc), (.teq, 0, false, shc), (.cmp, 0, true, false), (.cmn, 0, false, false),
    (.orr, 0x3F, false, shc), (.mov, 0x3C, false, shc), (.bic, 0x03, false, shc), (.mvn, 0xFFFFFFC3, true, shc)] :
    List (DpOp × Word × Bool × Bool)).all fun e =>
      gives (exec (dpInstr e.1 f .al true 1 0) (start 0x2000001F none [(1, 0x0F), (2, 0x0F), (3, 0xF0), (4, 2)] []))
        fun t => reg t 0 = e.2.1 && t.cpsr.n = e.2.2.1 && !t.cpsr.z && t.cpsr.c = e.2.2.2 && !t.cpsr.v &&
          t.pc = 0x08000004

/-- Immediate 0x3C, not rotated: the carry is kept (R405). -/
theorem test_dp_imm : dpTable (.imm 0 0x3C) true = true := by decide

/-- R2 shifted left by 2: the carry is bit 30 of 0x0F (R401). -/
theorem test_dp_rsi : dpTable (.rsi 2 .lsl 2) false = true := by decide

/-- R3 shifted right by R4 = 2: the carry is bit 1 of 0xF0 (R402). -/
theorem test_dp_rsr : dpTable (.rsr 4 .lsr 3) false = true := by decide

/-! ### Forms the vectors above leave out -/

/-- The post-indexed and T forms (42 R503 to R509): the word at R1 is 0x11223344. -/
theorem test_post_indexed : (
    vec false 0xE4B10004 0x1F none [(1, 0x03000000)] [(0x03000000, 0x11223344)] [(0, 0x11223344), (1, 0x03000004)]
      0x08000004 0x1F [] &&
    vec false 0xE4F10001 0x1F none [(1, 0x03000000)] [(0x03000000, 0x11223344)] [(0, 0x44), (1, 0x03000001)]
      0x08000004 0x1F [] &&
    vec false 0xE4D10001 0x1F none [(1, 0x03000000)] [(0x03000000, 0x11223344)] [(0, 0x44), (1, 0x03000001)]
      0x08000004 0x1F [] &&
    vec false 0xE4A10004 0x1F none [(0, 0x5), (1, 0x03000000)] [] [(1, 0x03000004)] 0x08000004 0x1F [(0x03000000, 5)] &&
    vec false 0xE4810004 0x1F none [(0, 0x5), (1, 0x03000000)] [] [(1, 0x03000004)] 0x08000004 0x1F [(0x03000000, 5)] &&
    vec false 0xE4E10001 0x1F none [(0, 0x1FF), (1, 0x03000000)] [] [(1, 0x03000001)] 0x08000004 0x1F
      [(0x03000000, 0xFF)] &&
    vec false 0xE4C10001 0x1F none [(0, 0x1FF), (1, 0x03000000)] [] [(1, 0x03000001)] 0x08000004 0x1F
      [(0x03000000, 0xFF)]) = true := by decide

/-- What the rules fix where one value is free: V41.2, V42.17, V42.32 and 44 R674. -/
theorem test_free_values : (
    gives (run false 0xE0100291 (start 0x2000001F none [(1, 0x10000), (2, 0x10000)] []))
      (fun t => reg t 0 = 0 && t.cpsr.z && !t.cpsr.n && !t.cpsr.v && t.freeIdx = 1) &&
    gives (run false 0xE0F10392 (start 0x1F none [(2, 0xFFFFFFFF), (3, 1)] []))
      (fun t => reg t 0 = 0xFFFFFFFF && reg t 1 = 0xFFFFFFFF && t.cpsr.n && !t.cpsr.z) &&
    gives (run false 0xE5A11004 (start 0x1F none [(1, 0x03000000)] [])) (fun t => reg t 1 = 0x03000004) &&
    gives (run false 0xE8A10003 (start 0x1F none [(0, 5), (1, 0x03000000)] []))
      (fun t => reg t 1 = 0x03000008) &&
    gives (run true 0x4348 (start 0x3F none [(0, 6), (1, 7)] [])) (fun t => reg t 0 = 42 && !t.cpsr.z)) = true := by
  decide

/-- V40.52, V42.37, V42.38 and 42 R541: the SPSR, the User bank and the restore with write-back in the old bank. -/
theorem test_banks : (
    gives (run false 0xE16FF000 (start 0x12 none [(0, 0x8000001F)] [])) (fun t =>
      (t.spsrOf .irq).toWord = 0x8000001F && (t.spsrOf .svc).toWord = 0) &&
    gives (run false 0xE8FD8001 (start 0x12 (some 0x1F) [(13, 0x03000000)] [(0x03000000, 0x55), (0x03000004, 0x08000200)]))
      (fun t => reg t 0 = 0x55 && reg t 13 = 0x03007F00 && t.pc = 0x08000200 && t.cpsr.toWord = 0x1F &&
        t.greg (.sp .irq) = 0x03000008) &&
    gives (run false 0xE8D06000 (start 0x12 none [(0, 0x03000000)] [(0x03000000, 0x11), (0x03000004, 0x22)]))
      (fun t => t.greg (.sp .usr) = 0x11 && t.greg (.lr .usr) = 0x22 && t.greg (.sp .irq) = 0x03007FA0) &&
    gives (run false 0xE8C06000 (start 0x13 none [(0, 0x03000000)] []))
      (fun t => t.memRead 0x03000000 .b4 = 0x03007F00 && t.memRead 0x03000004 .b4 = 0)) = true := by decide

/-- 44 R654, 45 R700 (V45.2: a PC that is not a multiple of 4). -/
theorem test_thumb_pc_relative : (
    vec true 0x1A88 0x3F none [(1, 0x80000000), (2, 1)] [] [(0, 0x7FFFFFFF)] 0x08000002 0x3000003F [] &&
    gives (run true 0x4800 { start 0x3F none [] [(0x03000004, 0xDEADBEEF)] with pc := 0x03000002 })
      (fun t => reg t 0 = 0xDEADBEEF && t.pc = 0x03000004)) = true := by decide

/-! ### System calls (spec/95 section 3.9) -/

/-- A call run from ARM state with r0, r1, r2 and words in memory. -/
def call (n : Nat) (r0 r1 r2 : Word) (mem : List (Word × Word)) (s : State) : Host.Outcome State Fault Refusal :=
  run false (0xEF000000 + n * 0x10000)
    (mem.foldl (fun t e => t.memWrite e.1 .b4 e.2) (((s.setReg 0 r0).setReg 1 r1).setReg 2 r2))

/-- VH.1, VH.4, VH.6 and 47 R819 (16 units rounded down from 23). -/
theorem test_copy_calls : (
    gives (call 0x0B 0x03000000 0x03000100 3 [(0x03000000, 0x22221111), (0x03000004, 0x44443333)] State.reset)
      (fun t => t.memRead 0x03000100 .b4 = 0x22221111 && t.memRead 0x03000104 .b4 = 0x3333) &&
    gives (call 0x0B 0x03000000 0x03000004 0x04000003 [(0x03000000, 0xA0), (0x03000004, 0xA1), (0x03000008, 0xA2)]
        State.reset)
      (fun t => t.memRead 0x03000004 .b4 = 0xA0 && t.memRead 0x0300000C .b4 = 0xA0 && t.memRead 0x03000010 .b4 = 0) &&
    gives (call 0x0C 0x03000000 0x03000100 7 [(0x03000000, 1)] State.reset) (fun t => t.memRead 0x03000100 .b4 = 0) &&
    gives (call 0x0C 0x03000000 0x03000100 0x0100000F [(0x03000000, 0xCAFEBABE)] State.reset)
      (fun t => t.memRead 0x0300011C .b4 = 0xCAFEBABE && t.memRead 0x03000120 .b4 = 0)) = true := by decide

/-- VH.8, and 47 R820. -/
theorem test_div_arm_checksum : (
    gives (call 0x07 2 7 0x55 [] State.reset) (fun t => reg t 0 = 3 && reg t 1 = 1 && reg t 3 = 3 && reg t 2 = 0x55) &&
    gives (call 0x0D 0 0 0 [] State.reset) (fun t => reg t 0 = 0xBAAE187F && t.pc = 0x08000004)) = true := by decide

/-- VH.17 and VH.18: the streams with a corrupted flag byte, and guard bytes after the destination. -/
theorem test_lz_decoder : (
    gives (call 0x11 0x03000000 0x03000100 0
        [(0x03000000, 0x00000810), (0x03000004, 0x00424120), (0x03000108, 0xEEEEEEEE)] State.reset)
      (fun t => t.memRead 0x03000100 .b4 = 0x42424241 && t.memRead 0x03000104 .b4 = 0x00000042 &&
        t.memRead 0x03000108 .b4 = 0xEEEEEEEE) &&
    gives (call 0x11 0x03000000 0x03000100 0
        [(0x03000000, 0x00000810), (0x03000004, 0x00F0417F), (0x03000108, 0xEEEEEEEE)] State.reset)
      (fun t => t.memRead 0x03000100 .b4 = 0x41414141 && t.memRead 0x03000104 .b4 = 0x41414141 &&
        t.memRead 0x03000108 .b4 = 0xEEEEEEEE)) = true := by decide

/-- VH.9: IWRAM and VRAM cleared, the rest kept. -/
theorem test_ram_reset :
    gives (call 0x01 0x0A 0 0
        [(0x06000000, 0x12345678), (0x06017FFC, 1), (0x03007DFC, 6), (0x03007E00, 7), (0x05000000, 0x7FFF),
          (0x02000000, 9)] State.reset)
      (fun t => t.memRead 0x06000000 .b4 = 0 && t.memRead 0x06017FFC .b4 = 0 && t.memRead 0x03007DFC .b4 = 0 &&
        t.memRead 0x03007E00 .b4 = 7 && t.memRead 0x05000000 .b4 = 0x7FFF && t.memRead 0x02000000 .b4 = 9) = true := by
  decide

/-- VH.10 and VH.11. -/
theorem test_soft_reset : (
    gives (call 0x00 5 0 0 [(0x03007F00, 0xFF)]
        ((start 0x60000012 none [(13, 0x1234)] []).setIc { ie := 1, iff := 0, ime := false, shadow := 3 }))
      (fun t => t.pc = 0x08000000 && t.cpsr.toWord = 0x1F && reg t 0 = 0 && reg t 13 = 0x03007F00 &&
        t.greg (.sp .irq) = 0x03007FA0 && t.memRead 0x03007F00 .b4 = 0 && t.ic.shadow = 0 && t.ic.ie = 1) &&
    gives (call 0x00 0 0 0 [(0x03007FF8, 0x00010000)] State.reset) (fun t => t.pc = 0x02000000)) = true := by decide

/-! ### Interrupts and waits (spec/95 section 3.10) -/

/-- An interrupt controller. -/
def icOf (ie iff : BitVec 14) (ime : Bool) (shadow : Half) : IntController where
  ie := ie
  iff := iff
  ime := ime
  shadow := shadow

/-- VI.2 and VI.4: a halted CPU waits, and takes the IRQ in the step that wakes it. -/
theorem test_halt : (
    gives (step { State.reset with halted := true, waitKind := .halt })
      (fun t => t.halted && t.pc = 0x08000000 && t.cycleCount = 1 && t.instrCount = 0) &&
    gives (step { State.reset with halted := true, waitKind := .halt, pc := 0x08000004, ic := icOf 1 1 true 1 })
      (fun t => !t.halted && t.pc = 0x18 && t.cpsr.toWord = 0x92 && t.greg (.lr .irq) = 0x08000008 &&
        (t.spsrOf .irq).toWord = 0x1F && t.ic.iff = 1)) = true := by decide

/-- VI.8 (second step), VI.10 and VI.12. -/
theorem test_intr_wait_and_stop : (
    gives (step { State.reset.withFetchWord 32 0xE1A00000 with
        halted := true, waitKind := .intrWait, waitMask := 1, ic := icOf 0 0 true 1 })
      (fun t => !t.halted && t.ic.shadow = 0 && t.pc = 0x08000004) &&
    gives (step { State.reset with halted := true, waitKind := .intrWait, waitMask := 1, ic := icOf 3 2 true 2 })
      (fun t => t.halted && t.pc = 0x08000000) &&
    gives (step { State.reset with stopped := true, ic := icOf 0x1001 0x0001 true 1 }) (fun t => t.stopped) &&
    gives (step { State.reset with stopped := true, ic := icOf 0x1001 0x1001 true 0x1001 })
      (fun t => !t.stopped && t.pc = 0x18 && t.cpsr.toWord = 0x92)) = true := by decide

/-- VI.13 to VI.15: writes to IF, IME and IE. -/
theorem test_interrupt_registers : (
    gives (run false 0xE1C010B2 ((start 0x1F none [(0, 0x04000200), (1, 1)] []).setIc (icOf 0 3 false 0)))
      (fun t => t.ic.iff = 2) &&
    gives (run false 0xE1C010B8 (start 0x1F none [(0, 0x04000200), (1, 0xFFFF)] [])) (fun t =>
      t.ic.ime && t.memRead 0x04000208 .b2 = 1) &&
    gives (run false 0xE1C010B0 (start 0x1F none [(0, 0x04000200), (1, 0xFFFF)] [])) (fun t =>
      t.memRead 0x04000200 .b2 = 0x3FFF)) = true := by decide

/-- 60 R920 (from Thumb state) and VI.19. -/
theorem test_irq_entry_and_return : (
    gives (step { (start 0x6000003F none [] []).setIc (icOf 1 1 true 1) with pc := 0x08000102 })
      (fun t => t.greg (.lr .irq) = 0x08000106 && (t.spsrOf .irq).toWord = 0x6000003F && t.cpsr.toWord = 0x60000092 &&
        t.pc = 0x18) &&
    gives (run false 0xE25EF004 (start 0x92 (some 0x6000003F) [(14, 0x08000106)] []))
      (fun t => t.pc = 0x08000102 && t.cpsr.toWord = 0x6000003F)) = true := by decide

/-- 60 R925 and R926: with no BiosHLE. -/
theorem test_swi_exception :
    gives (run false 0xEF060000 { State.reset with
        pc := 0x08000010, params := { State.reset.params with hleInstalled := false } })
      (fun t => t.greg (.lr .svc) = 0x08000014 && (t.spsrOf .svc).toWord = 0x1F && t.cpsr.toWord = 0x93 && t.pc = 0x08) =
      true := by decide

/-! ### Memory (spec/95 section 3.1) -/

/-- A state after halfword writes. -/
def after16 (ws : List (Word × Word)) : State := ws.foldl (fun t e => t.memWrite e.1 .b2 e.2) State.reset

/-- VM.5 to VM.8, VM.16 to VM.18, VM.20 to VM.22. -/
theorem test_memory_map :
    (after16 [(0x06000000, 0x1234)]).memRead 0x06018000 .b2 = 0x1234 ∧
      (after16 [(0x06010000, 0x7777)]).memRead 0x06028000 .b2 = 0x7777 ∧
      (after16 [(0x05000000, 0x7FFF)]).memRead 0x05000400 .b2 = 0x7FFF ∧
      (after16 [(0x07000000, 0xBEEF)]).memRead 0x07000400 .b2 = 0xBEEF ∧
      ((after16 [(0x06000000, 0x1234)]).memWrite 0x06000001 .b1 0xAB).memRead 0x06000000 .b2 = 0xAB34 ∧
      (after16 [(0x03FFFFF8, 0x0003)]).ic.shadow = 3 ∧
      (after16 [(0x04000010, 0xFFFF)]).memRead 0x04000010 .b2 = 0x01FF ∧
      (after16 [(0x04000002, 0x1234)]).memRead 0x04000002 .b2 = 0x1234 ∧
      (after16 [(0x04000000, 0x0404)]).memRead 0x04010000 .b2 = 0x0404 := by decide

/-- VM.9 to VM.11 and VM.14. -/
theorem test_memory_edges :
    (State.reset.memWrite 0 .b4 0xFFFFFFFF).memRead 0 .b4 = 0 ∧ State.reset.memRead 0x4018 .b4 = 0xEA000042 ∧
      (State.reset.memWrite 0x01000000 .b4 5).memRead 0x01000000 .b4 = 0 ∧
      (State.reset.memWrite 0x0E000000 .b1 0xAB).memRead 0x0E000000 .b1 = 0xAB := by decide

/-- 00 R11, 20 R240: `UNMAPPED_READ` is asked for at the aligned address, and a misaligned LDR rotates what it gives (42 R502). -/
theorem test_unmapped_alignment :
    (let s := { State.reset with params := { referenceParams with
        unmappedRead := [(8 * 0x01000000 + 2, 0xAABB), (8 * 0x01000000 + 4, 0x11223344)] } };
      s.memRead 0x01000003 .b4 = 0x11223344 ∧ s.memRead 0x01000001 .b2 = 0xAABB ∧ s.memRead 0x01000003 .b1 = 0 ∧
        s.memRead 0x01000002 .b2 = 0 ∧ s.loadWord 0x01000001 = 0x44112233) := by decide

/-! ### The picture processor (spec/95 section 3.12) -/

/-- The setup S of 61 R1029, with the registers given. -/
def twoBackgrounds (dispcnt bg0 bg1 hofs : Word) : State :=
  [(0x04000000, dispcnt), (0x04000008, bg0), (0x0400000A, bg1), (0x04000010, hofs), (0x06004000, 0x0001),
    (0x06004800, 0x0002), (0x05000000, 0x7C00), (0x05000002, 0x001F), (0x05000004, 0x03E0)].foldl
    (fun (t : State) (e : Word × Word) => t.memWrite e.1 .b2 e.2)
    ((List.range 8).foldl (fun t k =>
        (t.memWrite (0x06000020 + BitVec.ofNat 32 (4 * k)) .b4 0x11111111).memWrite
          (0x06000040 + BitVec.ofNat 32 (4 * k)) .b4 0x22222222)
      State.reset |>.memWrite 0x06000020 .b1 0x10)

/-- VP.1 to VP.5: red 0x001F, green 0x03E0, blue 0x7C00. -/
theorem test_background_priority :
    [0, 1, 7, 8].map (fun x => compose (twoBackgrounds 0x0300 0x0800 0x0901 0) 0 x 0) = [0x03E0, 0x001F, 0x001F, 0x7C00] ∧
      [0, 1, 7, 8].map (fun x => compose (twoBackgrounds 0x0300 0x0801 0x0900 0) 0 x 0) =
        [0x03E0, 0x03E0, 0x03E0, 0x7C00] ∧
      [0, 1, 7, 8].map (fun x => compose (twoBackgrounds 0x0300 0x0800 0x0900 0) 0 x 0) =
        [0x03E0, 0x001F, 0x001F, 0x7C00] ∧
      [0, 6, 7, 8].map (fun x => compose (twoBackgrounds 0x0300 0x0800 0x0901 1) 0 x 0) =
        [0x001F, 0x001F, 0x03E0, 0x7C00] ∧
      [0, 1, 2, 9].map (fun x => compose (twoBackgrounds 0x0300 0x0800 0x0901 0x1FF) 0 x 0) =
        [0x03E0, 0x03E0, 0x001F, 0x7C00] := by decide

/-- 61 R1057: the sprite example, at X = 4 and at X = -4. -/
def oneSprite (attr1 : Word) : State :=
  [(0x04000000, 0x1040), (0x07000002, attr1), (0x07000004, 0x0C01), (0x05000206, 0x7FFF), (0x06010020, 0x3333),
    (0x06010022, 0x3333)].foldl (fun (t : State) (e : Word × Word) => t.memWrite e.1 .b2 e.2) State.reset

/-- 61 R1057, and the colour as a pixel. -/
theorem test_sprite :
    [3, 4, 11, 12].map (fun x => compose (oneSprite 0x0004) 0 x 0) = [0, 0x7FFF, 0x7FFF, 0] ∧
      [0, 3, 4].map (fun x => compose (oneSprite 0x01FC) 0 x 0) = [0x7FFF, 0x7FFF, 0] ∧ toRGBA 0x7FFF = 0xFFF8F8F8 := by
  decide

/-- 61 R1053, R1072 (log 25): an 8-bpp sprite of tile 1023 takes its rows 0 to 3 from the last unit of VRAM and its rows 4 to 7
from the first unit of sprite memory; tile 1022 ends with VRAM. -/
theorem test_sprite_last_unit :
    (let s := after16 [(0x04000000, 0x1040), (0x07000000, 0x2000), (0x07000002, 0x0000), (0x07000004, 0x03FF),
        (0x05000202, 0x001F), (0x05000204, 0x03E0), (0x06017FF8, 0x0001), (0x06010000, 0x0002)];
      [3, 4].map (fun y => compose s 0 0 y) = [0x001F, 0x03E0]) ∧
      objOffset 1022 63 = 0x17FFF ∧ objOffset 1023 31 = 0x17FFF ∧ objOffset 1023 32 = 0x10000 ∧
      objOffset 1024 0 = 0x10000 := by decide

/-- VP.10 to VP.12: the bitmap modes. -/
theorem test_bitmap_modes :
    compose (after16 [(0x04000000, 0x0414), (0x06000000, 1), (0x0600A000, 2), (0x05000002, 0x1F), (0x05000004, 0x3E0)]) 4 0 0 =
        0x03E0 ∧
      compose (after16 [(0x04000000, 0x0404), (0x06000000, 1), (0x0600A000, 2), (0x05000002, 0x1F)]) 4 0 0 = 0x001F ∧
      compose (after16 [(0x04000000, 0x0403), (0x06000000, 0xFFFF)]) 3 0 0 = 0x7FFF ∧
      toRGBA (compose (after16 [(0x04000000, 0x0003), (0x06000000, 0x001F), (0x05000000, 0x4210)]) 3 0 0) = 0xFF808080 := by
  decide

/-- 61 R1002 to R1004: the VBlank request at line 160, and the HBlank flag at cycle 960. -/
theorem test_ppu_events :
    (let t := tick ((State.reset.setIc (icOf 1 0 true 0)).setPpu { Ppu.reset with
        line := 159, lineCycle := 1231, hblankDone := true
        dispstat := { DispStat.reset with hblank := true, vblankIrq := true } });
      t.ppu.line = 160 ∧ t.ppu.dispstat.vblank = true ∧ t.ppu.dispstat.hblank = false ∧ t.ic.iff = 1 ∧ t.ic.shadow = 1 ∧
        t.ppu.frameReady = true) ∧
      (let t := tick (State.reset.setPpu { Ppu.reset with line := 200, lineCycle := 959 });
        t.ppu.lineCycle = 960 ∧ t.ppu.dispstat.hblank = true) := by decide

/-! ### The session (60 R960, R961, R965) -/

/-- A loaded image is read from the cartridge's base, a reset keeps it and clears IWRAM, and a save puts memory back. -/
def sessionWorks (s : State) : Bool :=
  s.memRead 0x08000000 .b4 = 0x44332211 && s.memRead 0x08100000 .b4 = 0 &&
    (sessionReset (s.memWrite 0x03000000 .b4 7)).memRead 0x03000000 .b4 = 0 &&
    (sessionReset s).memRead 0x08000000 .b4 = 0x44332211 &&
    (restore (save (s.memWrite 0x03000000 .b4 7)) s).memRead 0x03000000 .b4 = 7

/-- 60 R960: a missing image fails. -/
theorem test_session :
    (match loadCartridge referenceParams none with
      | .error _ => true
      | .ok _ => false) = true ∧
      (match loadCartridge referenceParams (some [0x11, 0x22, 0x33, 0x44]) with
        | .error _ => false
        | .ok s => sessionWorks s) = true := by decide

/-- 60 R902, R903, R962: a frame whose step meets `UNPREDICTABLE(mul_r15)` (MUL R15, R0, R1) logs that one event and returns it;
`runFrame` of the faulted CPU runs no step and logs nothing more. -/
theorem test_faulted_frame :
    (let f := runFrame (State.reset.withFetchWord 32 0xE00F0190)
     let g := runFrame f.2;
      f.1 = .fault .mulR15 ∧ f.2.faulted = true ∧ f.2.log = [.fault .mulR15] ∧ g.1 = .fault .faultedCpu ∧
        g.2.log = [.fault .mulR15] ∧ g.2.cycleCount = 0) := by decide

/-- 00 R8, 30 R305: `CYC` is a parameter of at least 1; an anomaly that runs returns 1 whatever it is. -/
theorem test_cyc :
    (let s := { State.reset with params := { referenceParams with cyc := .fixed 2 } };
      instrCost (.movImm .al false 0 0 0 0) s = 3 ∧ instrCost (.movImm .eq false 0 0 0 0) s = 3 ∧
        instrCost (.und011 0xE6000010) s = 1 ∧ instrCost (.und011 0x06000010) s = 3 ∧
        instrCost (.movImm .al false 0 0 0 0) State.reset = 1) := by decide

/-! ### Witnesses: a state and operands that meet the hypotheses of each obligation, clause by clause -/

/-- An outcome that gives a property is a next state with it. -/
theorem next_of_gives {o : Host.Outcome State Fault Refusal} {p : State → Bool} (h : gives o p = true) :
    ∃ t, o = .next t ∧ p t = true := by
  cases o with
  | next t => exact ⟨t, rfl, h⟩
  | fault f => cases h
  | refused r => cases h

/-- MOV R0, R0 at the reset address. -/
def atNop : State := State.reset.withFetchWord 32 0xE1A00000

/-- The reset state in another status. -/
def inStatus (cpsr : Word) : State := start cpsr none [] []

/-- An interrupt pending and enabled. -/
def pendingIrq (bit : BitVec 14) (s : State) : State := s.setIc (icOf bit bit true 0)

/-- O4: the first and last numbers of each class, and the two classes by name. -/
theorem witness_BankedRegistersByMode :
    bank .sys 7 = .gen (.low 7) ∧ bank .irq 8 = .gen (.mid false 0) ∧ bank .fiq 12 = .gen (.mid true 4) ∧
      bank .irq 13 = .gen (.sp .irq) ∧ bank .sys 14 = .gen (.lr .usr) ∧
      (8 ≤ (8 : Reg).val ∧ (8 : Reg).val < 13 ∧ 8 ≤ (12 : Reg).val ∧ (12 : Reg).val < 13) ∧ (7 : Reg).val < 8 ∧
      bank .fiq 14 = bank .fiq 14 ∧ (0 : Reg) ≠ 15 ∧ (14 : Reg) ≠ 15 := by decide

/-- O6: a branch with the last legal condition, and an anomaly word. -/
theorem witness_DecodeOfEncodeIsIdentity :
    (Instr.tBcond .le 0xFF).wf = true ∧ (Instr.undPsr 0xE12FFF30).wf = true ∧ (Instr.mul .nv true 15 15 15 15).wf = true := by
  decide

/-- O8: no interrupt pending, and one pending with I set. -/
theorem witness_StepRunsTheDecodedInstruction :
    (atNop.faulted = false ∧ atNop.stopped = false ∧ atNop.halted = false ∧ atNop.pendingInterrupt = none ∧
      decode (fetch atNop) = some (.movRsi .al false 0 0 0 .lsl 0)) ∧
      (let s := pendingIrq 1 ((inStatus 0x9F).withFetchWord 32 0xE1A00000);
        s.pendingInterrupt ≠ none ∧ s.cpsr.i = true ∧ decode (fetch s) = some (.movRsi .al false 0 0 0 .lsl 0)) := by decide

/-- O9: the four clauses; the unmapped addresses are those of top byte 0x01. -/
theorem witness_FetchReadsBytesAtPc :
    (State.reset.pcAligned = true ∧ regionOf State.reset.pc ≠ .unmapped ∧ State.reset.cpsr.t = false) ∧
      (let s := { inStatus 0x3F with pc := 0x03007FFE };
        s.pcAligned = true ∧ regionOf s.pc ≠ .unmapped ∧ s.cpsr.t = true) ∧
      (let s := { inStatus 0x1F with pc := 0x01FFFFFC };
        s.pcAligned = true ∧ regionOf s.pc = .unmapped ∧ s.cpsr.t = false) ∧
      (let s := { inStatus 0x3F with pc := 0x01000002 };
        s.pcAligned = true ∧ regionOf s.pc = .unmapped ∧ s.cpsr.t = true) := by decide

/-- O10: faulted; stopped, waiting and woken; halted for Halt and for IntrWait, waiting and woken. -/
theorem witness_WaitingCpuStaysOrWakes :
    (let s := { State.reset with faulted := true }; s.faulted = true) ∧
      (let s := { State.reset with stopped := true, ic := icOf 0x0001 0x0001 true 0 };
        s.faulted = false ∧ s.params.stopWakeMask &&& s.ic.ie.setWidth 16 &&& s.ic.iff.setWidth 16 = 0) ∧
      (let s := { State.reset with stopped := true, ic := icOf 0x2000 0x2000 false 0 };
        s.faulted = false ∧ s.params.stopWakeMask &&& s.ic.ie.setWidth 16 &&& s.ic.iff.setWidth 16 ≠ 0) ∧
      (let s := { State.reset with halted := true, waitKind := .halt, ic := icOf 1 1 false 0 };
        s.stopped = false ∧ ¬(s.ic.ime = true ∧ s.ic.ie &&& s.ic.iff ≠ 0)) ∧
      (let s := { State.reset with halted := true, waitKind := .halt, ic := icOf 1 1 true 0 };
        s.ic.ime = true ∧ s.ic.ie &&& s.ic.iff ≠ 0) ∧
      (let s := { State.reset with halted := true, waitKind := .intrWait, waitMask := 0, ic := icOf 1 1 true 1 };
        s.ic.shadow &&& s.waitMask = 0) ∧
      (let s := { State.reset with halted := true, waitKind := .intrWait, waitMask := 0x2001, ic := icOf 0 0 true 0x2000 };
        s.ic.shadow &&& s.waitMask ≠ 0) := by decide

/-- O11: the lowest and the highest bit. -/
theorem witness_PendingIrqIsTaken :
    (let s := pendingIrq 1 State.reset;
      s.faulted = false ∧ s.stopped = false ∧ s.halted = false ∧ s.ic.ime = true ∧ s.ic.ie.getLsbD 0 = true ∧
        s.ic.iff.getLsbD 0 = true ∧ s.cpsr.i = false) ∧
      (let s := pendingIrq 0x2000 State.reset;
        s.ic.ime = true ∧ s.ic.ie.getLsbD 13 = true ∧ s.ic.iff.getLsbD 13 = true) := by decide

/-- The CPU's step answers. -/
def answers (s : State) : Bool :=
  match cpuStep s with
  | .next _ => true
  | .fault _ => false
  | .refused _ => false

/-- O12: an instruction, an IRQ entry, and each way of waiting, asleep and woken; a wake runs an instruction, or enters. -/
theorem witness_StepCountsCyclesAndInstructions :
    (answers atNop = true ∧ gives (step atNop) (fun t => t.instrCount = 1) = true ∧ ¬StaysAsleep atNop ∧
      atNop.pendingInterrupt = none) ∧
      (let s := pendingIrq 1 atNop;
        answers s = true ∧ gives (step s) (fun t => t.instrCount = 0) = true ∧ ¬StaysAsleep s ∧
          s.pendingInterrupt ≠ none ∧ s.cpsr.i = false) ∧
      (let s := { atNop with stopped := true };
        answers s = true ∧ gives (step s) (fun t => t.instrCount = 0) = true ∧ StaysAsleep s) ∧
      (let s := { atNop with stopped := true, ic := icOf 0x2000 0x2000 false 0 };
        answers s = true ∧ gives (step s) (fun t => t.instrCount = 1) = true ∧ ¬StaysAsleep s ∧ s.pendingInterrupt = none) ∧
      (let s := { atNop with halted := true, waitKind := .halt, ic := icOf 1 1 false 0 };
        answers s = true ∧ gives (step s) (fun t => t.instrCount = 0) = true ∧ StaysAsleep s) ∧
      (let s := { pendingIrq 1 atNop with halted := true, waitKind := .halt };
        answers s = true ∧ gives (step s) (fun t => t.instrCount = 0) = true ∧ ¬StaysAsleep s ∧
          s.pendingInterrupt ≠ none ∧ s.cpsr.i = false) ∧
      (let s := { atNop with halted := true, waitKind := .intrWait, waitMask := 1, ic := icOf 1 0 true 2 };
        answers s = true ∧ gives (step s) (fun t => t.instrCount = 0) = true ∧ StaysAsleep s) ∧
      (let s := { atNop with halted := true, waitKind := .intrWait, waitMask := 1, ic := icOf 1 0 true 1 };
        answers s = true ∧ gives (step s) (fun t => t.instrCount = 1) = true ∧ ¬StaysAsleep s ∧
          s.pendingInterrupt = none) := by
  unfold StaysAsleep
  refine ⟨?_, ?_, ?_, ?_, ?_, ?_, ?_, ?_⟩ <;> decide

/-- O13: ARM, and Thumb at an address that is not a multiple of 4. -/
theorem witness_IrqHandlerReturnResumes :
    State.reset.pcAligned = true ∧ ({ inStatus 0x3F with pc := 0x08000102 } : State).pcAligned = true := by decide

/-- No BiosHLE. -/
def noHle (s : State) : State := { s with params := { s.params with hleInstalled := false } }

/-- O14: an ARM and a Thumb SWI. -/
theorem witness_SwiExceptionEntryAndReturn :
    ((noHle State.reset).params.hleInstalled = false ∧ IsCall (.swi .al 0x060001) 0x06 4 (noHle State.reset) ∧
      (noHle State.reset).cpsr.t = false ∧ (noHle State.reset).pcAligned = true) ∧
      (noHle (inStatus 0x3F)).params.hleInstalled = false ∧ IsCall (.tSwi 0xFF) 0xFF 2 (noHle (inStatus 0x3F)) ∧
      (noHle (inStatus 0x3F)).cpsr.t = true :=
  ⟨⟨rfl, .inl ⟨.al, 1, rfl, rfl, rfl⟩, rfl, rfl⟩, rfl, .inr ⟨rfl, rfl⟩, rfl⟩

/-- O15 to O17: the invariants hold of a state that steps, at reset and at the end of a line. -/
theorem witness_step_invariants :
    ∃ s t : State, s.pcAligned = true ∧ Memory.wf s.mem = true ∧ Memory.unshadowed s.mem = true ∧
      s.ppu.countersOk = true ∧ Frame.wf s.ppu.fb = true ∧ s.waitOk = true ∧ step s = .next t ∧ t.ppu.line = 201 := by
  have h : gives (step (atNop.setPpu { Ppu.reset with
      line := 200, lineCycle := 1231, hblankDone := true
      dispstat := { DispStat.reset with vblank := true, hblank := true } })) (fun t => t.ppu.line = 201) = true := by decide
  obtain ⟨t, ht, hp⟩ := next_of_gives h
  exact ⟨_, t, by decide, by decide, by decide, by decide, by decide, by decide, ht, of_decide_eq_true hp⟩

/-- O18: MSR in User mode completes. -/
theorem witness_UserModeIsLeftOnlyBySwi :
    (inStatus 0x10).cpsr.mode = .usr ∧
      gives (exec (.msrImm .al false 0b1001 0 0x9F) (inStatus 0x10)) (fun t => t.cpsr.mode = .usr) = true := by decide

/-- O19: each of the kinds does change T. -/
theorem witness_ThumbBitWriters :
    gives (exec (.bx .al 0) (start 0x1F none [(0, 0x08000101)] [])) (fun t => t.cpsr.t ≠ false) = true ∧
      gives (exec (.tBx false 0 0) (start 0x3F none [(0, 0x08000100)] [])) (fun t => t.cpsr.t ≠ true) = true ∧
      gives (exec (.movRsi .al true 0 15 0 .lsl 14) (start 0x13 (some 0x3F) [] [])) (fun t => t.cpsr.t ≠ false) = true ∧
      gives (exec (.tSwi 0) (inStatus 0x3F)) (fun t => t.cpsr.t ≠ true) = true := by decide

/-- O20: an MSR in each exception mode, and SoftReset. -/
theorem witness_SavedStatusWriters :
    ([(0x11, .fiq), (0x12, .irq), (0x13, .svc), (0x17, .abt), (0x1B, .und)] : List (Word × Exc)).all (fun e =>
      gives (exec (.msrImm .al true 0b1000 4 0xF0) (inStatus e.1)) fun t =>
        t.spsrOf e.2 ≠ (inStatus e.1).spsrOf e.2) = true ∧
      (let s := { State.reset with spsr := Vector.replicate 5 (Psr.ofWord 0x10) };
        gives (exec (.swi .al 0) s) (fun t => t.spsrOf .svc ≠ s.spsrOf .svc && t.spsrOf .irq ≠ s.spsrOf .irq) = true) := by
  decide

/-- O21: a form for every tag, which is its only one, and forms with none. -/
theorem witness_FaultsExactlyWhereUnpredictable :
    ([(.msrReg .al false 1 0, start 0x1F none [(0, 0x00)] [], .invalidMode),
      (.movRsi .al true 0 15 0 .lsl 14, start 0x13 (some 0x00) [] [], .invalidMode),
      (.movRsi .al true 0 15 0 .lsl 14, State.reset, .noSpsrRestore),
      (.mrs .al true 0, State.reset, .noSpsr),
      (.msrReg .al false 1 0, start 0x1F none [(0, 0x3F)] [], .msrTChange),
      (.msrReg .al false 8 15, State.reset, .msrR15),
      (.mrs .al false 15, State.reset, .mrsR15),
      (.addRsr .al false 1 0 2 .lsl 15, State.reset, .dpRegshiftR15),
      (.mul .al false 0 0 2 15, State.reset, .mulR15),
      (.mla .al false 1 3 2 1, State.reset, .mulRdEqRm),
      (.umull .al false 1 2 3 2, State.reset, .mullRegOverlap),
      (.ldrPre .al true false 1 0 (.reg 0 .lsl 15), State.reset, .ldstRmR15),
      (.strPost .al true 15 0 (.imm 4), State.reset, .ldstWbR15),
      (.ldrPost .al true 1 1 (.imm 4), State.reset, .ldWbRnEqRd),
      (.ldrbPre .al true false 1 15 (.imm 4), State.reset, .ldrbR15),
      (.strbPre .al true false 1 15 (.imm 4), State.reset, .strbR15),
      (.ldrh .al false true true 1 0 (.imm 4), State.reset, .hwPostWriteback),
      (.strh .al true true false 1 15 (.imm 4), State.reset, .hwR15),
      (.ldrsh .al true true false 1 0 (.imm 1), State.reset, .hwMisaligned),
      (.stm .al false true false true 1 0, State.reset, .ldmStmEmptyList),
      (.ldm .al false true false false 15 1, State.reset, .ldmStmRnR15),
      (.ldm .al false true false true 0 1, State.reset, .ldmWbRnInList),
      (.stm .al false true true true 0 1, inStatus 0x12, .userBankWriteback),
      (.ldm .al false true true false 0 1, State.reset, .userBankInUsrSys),
      (.swp .al 15 1 2, State.reset, .swpR15),
      (.swpb .al 1 1 2, State.reset, .swpRnOverlap),
      (.bx .al 0, start 0x1F none [(0, 2)] [], .bxArmMisaligned),
      (.tBx true 0 0, inStatus 0x3F, .thumbBxH1),
      (.tMovHi 0 7, inStatus 0x3F, .thumbHiLoLo)] : List (Instr × State × Fault)).all
      (fun e => passes e.1 e.2.1 && tags e.1 e.2.1 = [e.2.2]) = true ∧
      ([(.ldrh .al true true true 1 0 (.imm 2)), (.tMovHi 8 7), (.ldm .al false true false true 0 2)] : List Instr).all
        (fun i => passes i State.reset && tags i State.reset = []) = true := by decide

/-- O23: a plain instruction, an anomaly, and the condition that never passes. -/
theorem witness_FailedConditionOnlyAdvancesPc :
    (condOf (.addImm .eq false 0 0 0 1) = some .eq ∧ condPass .eq State.reset.cpsr = false) ∧
      (condOf (.und011 0x06000010) = some .eq) ∧
      (condOf (.swi .nv 0) = some .nv ∧ condPass .nv State.reset.cpsr = false) := by decide

/-- O24: the amounts 1, 32 and 255 are at least 1. -/
theorem witness_BarrelShifterIsExact : 1 ≤ (1 : Nat) ∧ 1 ≤ (32 : Nat) ∧ 1 ≤ (255 : Nat) := by decide

/-- O25 and O26: an operation of each kind, with R15 as a destination and, without a register shift, as an operand; a
register-shift form of an operation with no R15. -/
theorem witness_DataProcessing :
    (isLogical .mov = true ∧ condPass .al State.reset.cpsr = true ∧ shiftNamesR15 .mov (.rsi 0 .lsl 15) 0 15 = false ∧
      restores .mov false 15 = false) ∧
      (isLogical .tst = true ∧ shiftNamesR15 .tst (.rsr 2 .ror 3) 1 15 = false ∧ restores .tst true 15 = false) ∧
      (isLogical .add = false ∧ shiftNamesR15 .add (.imm 0 0) 15 15 = false ∧ restores .add false 15 = false) ∧
      (isLogical .cmp = false ∧ shiftNamesR15 .cmp (.rsr 2 .ror 3) 1 15 = false ∧ restores .cmp true 15 = false) := by decide

/-- O27: no SPSR; an illegal and a legal saved mode. -/
theorem witness_DataProcessingPsrRestore :
    (writesRd .sub = true ∧ condPass .al State.reset.cpsr = true ∧ shiftNamesR15 .sub (.imm 0 4) 14 15 = false) ∧
      (noSpsrMode (inStatus 0x10).cpsr.mode = true ∧ noSpsrMode State.reset.cpsr.mode = true) ∧
      (let s := start 0x12 (some 0x00) [] [];
        s.cpsr.mode.exc? = some .irq ∧ Mode.ofBits? (s.spsrOf .irq).m = none) ∧
      (let s := start 0x12 (some 0x10) [] [];
        s.cpsr.mode.exc? = some .irq ∧ Mode.ofBits? (s.spsrOf .irq).m = some .usr) := by decide

/-- O28: with and without an SPSR. -/
theorem witness_MrsReadsStatus :
    condPass .al State.reset.cpsr = true ∧ (14 : Reg) ≠ 15 ∧ noSpsrMode State.reset.cpsr.mode = true ∧
      (inStatus 0x1B).cpsr.mode.exc? = some .und := by decide

/-- O29: User mode; a value of another T; an illegal mode; a legal one. The operand of the register form is R0. -/
theorem witness_MsrWritesCpsr :
    ((∃ rm, rm ≠ 15 ∧ Instr.msrReg .al false 9 0 = .msrReg .al false 9 rm ∧ (0x3F : Word) = reg (start 0x1F none [(0, 0x3F)] []) rm) ∧
      (∃ rot imm8, Instr.msrImm .al false 8 4 0xF0 = .msrImm .al false 8 rot imm8 ∧
        (0xF0000000 : Word) = ((imm8 : BitVec 8).setWidth 32).rotateRight (2 * (rot : BitVec 4).toNat))) ∧
      (condPass .al (inStatus 0x10).cpsr = true ∧ (inStatus 0x10).cpsr.mode = .usr ∧ (8 : BitVec 4).getLsbD 0 = false) ∧
      ((9 : BitVec 4).getLsbD 0 = true ∧ State.reset.cpsr.mode ≠ .usr ∧ (0x3F : Word).getLsbD 5 ≠ State.reset.cpsr.t) ∧
      ((0x00 : Word).getLsbD 5 = State.reset.cpsr.t ∧ Mode.ofBits? ((0x00 : Word).extractLsb' 0 5) = none) ∧
      ((0xD2 : Word).getLsbD 5 = State.reset.cpsr.t ∧ Mode.ofBits? ((0xD2 : Word).extractLsb' 0 5) = some .irq) :=
  ⟨⟨⟨0, by decide, rfl, by decide⟩, ⟨4, 0xF0, rfl, by decide⟩⟩, by decide, by decide, by decide, by decide⟩

/-- 40 R433, 60 R930: without an SPSR, MSR SPSR stops at that; with one, R15 as its operand stops it. MSR CPSR stops at R15. -/
theorem test_msr_order :
    stops false 0xE169F00F 0x1F none [] .noSpsr = true ∧ stops false 0xE169F00F 0x10 none [] .noSpsr = true ∧
      stops false 0xE169F00F 0x12 none [] .msrR15 = true ∧ stops false 0xE129F00F 0x1F none [] .msrR15 = true := by decide

/-- O30: with and without an SPSR. -/
theorem witness_MsrWritesSpsr :
    (∃ rm, rm ≠ 15 ∧ Instr.msrReg .al true 15 0 = .msrReg .al true 15 rm ∧ (0xFF : Word) = reg (start 0x12 none [(0, 0xFF)] []) rm) ∧
      noSpsrMode State.reset.cpsr.mode = true ∧ (inStatus 0x12).cpsr.mode.exc? = some .irq :=
  ⟨⟨0, by decide, rfl, by decide⟩, by decide, by decide⟩

/-- O31 and O32: registers that meet the restrictions, RdLo = Rs among them. -/
theorem witness_Multiplies :
    (condPass .al State.reset.cpsr = true ∧ (0 : Reg) ≠ 15 ∧ (14 : Reg) ≠ 15 ∧ (0 : Reg) ≠ 14) ∧
      ((1 : Reg) ≠ 15 ∧ (2 : Reg) ≠ 15 ∧ (3 : Reg) ≠ 15 ∧ (1 : Reg) ≠ 2 ∧ (1 : Reg) ≠ 3 ∧ (2 : Reg) ≠ 3) := by decide

/-- O33 and O34: a load into R15, a post-indexed load, a byte load, and a store of its own base. -/
theorem witness_ArmSingleTransfers :
    condPass .al State.reset.cpsr = true ∧ offsetR15 (.reg 0 .ror 14) = false ∧ offsetR15 (.imm 0xFFF) = false ∧
      (Indexing.pre false).wb = false ∧ (Indexing.post.wb = true ∧ (1 : Reg) ≠ 15 ∧ (1 : Reg) ≠ 0) ∧ (0 : Reg) ≠ 15 := by
  decide

/-- O35: a post-indexed form and one with write-back, at an even and an odd address. -/
theorem witness_ArmHalfwordTransfers :
    condPass .al State.reset.cpsr = true ∧ halfOffsetR15 (.reg 14) = false ∧ (0 : Reg) ≠ 15 ∧ (1 : Reg) ≠ 15 ∧ (1 : Reg) ≠ 0 ∧
      (addrOf State.reset true true 1 (halfOffset2 State.reset (.imm 2))).getLsbD 0 = false ∧
      (addrOf State.reset true true 1 (halfOffset2 State.reset (.imm 1))).getLsbD 0 = true := by decide

/-- O36: a list of one and of all registers; an exception mode with a legal SPSR. -/
theorem witness_ArmBlockLoads :
    (condPass .al State.reset.cpsr = true ∧ (0x0001 : BitVec 16) ≠ 0 ∧ (1 : Reg) ≠ 15 ∧
      (0x0001 : BitVec 16).getLsbD (1 : Reg).val = false) ∧ (0xFFFF : BitVec 16) ≠ 0 ∧
      ((0x6000 : BitVec 16).getLsbD 15 = false ∧ noSpsrMode (inStatus 0x12).cpsr.mode = false) ∧
      ((start 0x12 (some 0x3F) [] []).cpsr.mode.exc? = some .irq ∧ legalSpsr (start 0x12 (some 0x3F) [] []) = true ∧
        (0x800F : BitVec 16).getLsbD 15 = true) := by decide

/-- O37: the plain and the user-bank form. -/
theorem witness_ArmBlockStores :
    condPass .al (inStatus 0x12).cpsr = true ∧ (0xFFFF : BitVec 16) ≠ 0 ∧ (0 : Reg) ≠ 15 ∧
      noSpsrMode (inStatus 0x12).cpsr.mode = false := by decide

/-- O38: Rd = Rm is allowed. -/
theorem witness_ArmSwaps :
    condPass .al State.reset.cpsr = true ∧ (0 : Reg) ≠ 15 ∧ (1 : Reg) ≠ 15 ∧ (0 : Reg) ≠ 1 := by decide

/-- O39: the three targets of BX. -/
theorem witness_ArmBranches :
    condPass .al State.reset.cpsr = true ∧ (reg (start 0x1F none [(0, 0x101)] []) 0).getLsbD 0 = true ∧
      ((reg (start 0x1F none [(0, 0x102)] []) 0).getLsbD 0 = false ∧ (reg (start 0x1F none [(0, 0x102)] []) 0).getLsbD 1 = true) ∧
      ((reg State.reset 0).getLsbD 0 = false ∧ (reg State.reset 0).getLsbD 1 = false) := by decide

/-- O40 to O45: a call from each instruction set, with every number that a clause names. -/
theorem witness_SystemCalls (n : Byte) :
    State.reset.params.hleInstalled = true ∧ IsCall (.swi .al (n ++ (0xFFFF : BitVec 16))) n 4 State.reset ∧
      IsCall (.tSwi n) n 2 (inStatus 0x3F) ∧ hasRoutine 0x08 = false ∧ hasRoutine 0xFF = false ∧ (0x0D : Byte) ≠ 0 :=
  ⟨rfl, .inl ⟨.al, 0xFFFF, rfl, rfl, rfl⟩, .inr ⟨rfl, rfl⟩, by decide, by decide, by decide⟩

/-- O41: zero denominator, the overflow pair, and the rest. -/
theorem witness_DivisionCalls :
    ((start 0x1F none [(0, 0xFFFFFFF9), (1, 0)] []).arg 1).toInt = 0 ∧
      (((start 0x1F none [(0, 0x80000000), (1, 0xFFFFFFFF)] []).arg 0).toInt = -2147483648 ∧
        ((start 0x1F none [(0, 0x80000000), (1, 0xFFFFFFFF)] []).arg 1).toInt = -1) ∧
      ((start 0x1F none [(0, 0x80000000), (1, 1)] []).arg 1).toInt ≠ 0 := by decide

/-- O42: an address of each region the clauses name, at its ends. -/
theorem witness_ResetCalls :
    regionOf 0x03007E00 = .iwram ∧ regionOf 0x03007DFF = .iwram ∧ regionOf 0x0203FFFF = .ewram ∧
      regionOf 0x05000000 = .palette ∧ regionOf 0x06017FFF = .vram ∧ regionOf 0x07000000 = .oam ∧
      regionOf 0x00000000 = .bios ∧ regionOf 0x01000000 = .unmapped ∧ regionOf 0x04000000 = .io ∧
      regionOf 0x08000000 = .cartridge := by decide

/-- O45: a header with another tag, and an address outside its destination. -/
theorem witness_LzDecoderStaysInBounds :
    State.reset.memRead (State.reset.arg 0) .b1 ≠ 0x10 ∧ State.reset.place 0x03000008 ≠ State.reset.place 0x03000000 ∧
      (∀ x, State.reset.place 0x03000008 ≠ .external x) := by
  refine ⟨by decide, by decide, ?_⟩
  intro x h
  cases h

/-- O46: a word of the seven ARM rows and the seven Thumb rows. -/
theorem witness_DecodeAnomaliesAreNoOps :
    (Instr.und011 0xE6000010) ∈ [Instr.undMulSwap 0xE6000010, .undHalfword 0xE6000010, .undPsr 0xE6000010,
      .undMsrImm 0xE6000010, .und011 0xE6000010, .undCopTransfer 0xE6000010, .undCopOp 0xE6000010] ∧
      passes (.und011 0xE6000010) State.reset = true ∧
      (Instr.tUndE8 0xE800) ∈ [Instr.tUndB1 0xE800, .tUndB2 0xE800, .tUndB6 0xE800, .tUndB8 0xE800, .tUndBE 0xE800,
        .tUndDE 0xE800, .tUndE8 0xE800] := by decide

/-- O49 to O51: Rs and Rd equal and not; high and low registers; the three targets of BX; both outcomes of a branch. -/
theorem witness_Thumb :
    ((0 : LoReg) ≠ 7 ∧ (7 : LoReg) = 7) ∧ (8 ≤ (8 : Reg).val ∧ (7 : Reg).val < 8) ∧
      (let val := fun (s : State) (n : Reg) => if n = 15 then s.pc + 4 else reg s n;
        (val (start 0x3F none [(0, 0x101)] []) 0).getLsbD 0 = true ∧
        (val (start 0x3F none [(0, 0x102)] []) 0).getLsbD 1 = true ∧ (val (inStatus 0x3F) 15).getLsbD 1 = false) ∧
      condPass .ne (inStatus 0x3F).cpsr = true ∧ condPass .eq (inStatus 0x3F).cpsr = false := by decide

/-- O52 and O53: an even and an odd halfword address. -/
theorem witness_ThumbTransfers :
    (let s := start 0x3F none [(1, 0x03000000), (2, 2)] []; (s.lo 1 + s.lo 2).getLsbD 0 = false) ∧
      (let s := start 0x3F none [(1, 0x03000000), (2, 1)] []; (s.lo 1 + s.lo 2).getLsbD 0 = true) ∧
      (let s := start 0x3F none [(1, 0x03000001)] [];
        (s.lo 1 + BitVec.ofNat 32 (2 * (31 : BitVec 5).toNat)).getLsbD 0 = true) := by decide

/-- O54: R14 alone, and one low register alone. -/
theorem witness_ThumbStackAndBlocks : (0x80 : BitVec 8) ≠ 0 ∧ true = true ∧ (0x01 : BitVec 8) ≠ 0 := by decide

/-- O55: a compare, an MSR of the SPSR and an anomaly complete. -/
theorem witness_FrameOfNonStoring :
    (isStore (.cmpImm .al 0 0 0 1) = false ∧ isCall (.cmpImm .al 0 0 0 1) = false ∧
      gives (exec (.cmpImm .al 0 0 0 1) State.reset) (fun _ => true) = true) ∧
      gives (exec (.msrImm .al true 8 0 1) (inStatus 0x13)) (fun _ => true) = true ∧
      (isAnomaly (.tUndBE 0xBE00) = true ∧ gives (exec (.tUndBE 0xBE00) (inStatus 0x3F)) (fun _ => true) = true) := by decide

/-- O56: a store completes, and a byte beside its bytes is in another place. -/
theorem witness_FrameOfStoring :
    isStore (.strPre .al true false 1 0 (.imm 0)) = true ∧
      gives (exec (.strPre .al true false 1 0 (.imm 0)) (start 0x1F none [(1, 0x03000002)] [])) (fun _ => true) = true ∧
      storedBytes (.strPre .al true false 1 0 (.imm 0)) (start 0x1F none [(1, 0x03000002)] []) =
        [0x03000000, 0x03000001, 0x03000002, 0x03000003] ∧
      State.reset.place 0x03000004 ≠ State.reset.place 0x03000003 ∧ State.reset.place 0x03008000 = State.reset.place 0x03000000 := by
  decide

/-- O57: two mirrors, the read-only and the unmapped area, and a word of IWRAM. -/
theorem witness_MemoryComposition :
    (regionOf 0x03000000 = regionOf 0x03FF8000 ∧ regionOf 0x03000000 ≠ .unmapped ∧ regionOf 0x03000000 ≠ .cartridge ∧
      (0x03000000 : Word).toNat % 0x1000000 % (regionOf 0x03000000).size =
        (0x03FF8000 : Word).toNat % 0x1000000 % (regionOf 0x03000000).size) ∧
      regionOf 0x00003FFF = .bios ∧ regionOf 0x01000000 = .unmapped ∧
      (State.reset.place 0x02000000 = .ram 0x02000000 ∧ State.reset.place 0x02000001 ≠ .ram 0x02000000) ∧
      (∀ c, c ∈ accessBytes 0x03000002 .b4 → ∃ key, State.reset.place c = .ram key) ∧
      (∀ c, c ∈ accessBytes 0x03000003 .b2 → ∃ key, State.reset.place c = .ram key) := by
  refine ⟨by decide, by decide, by decide, by decide, ?_, ?_⟩ <;> intro c hc <;>
    simp only [accessBytes, List.mem_cons, List.not_mem_nil, or_false] at hc
  · rcases hc with rfl | rfl | rfl | rfl <;> exact ⟨_, rfl⟩
  · rcases hc with rfl | rfl <;> exact ⟨_, rfl⟩

/-- 20 R233: a byte write to lane 1 of BG0CNT keeps lane 0; to lane 1 of DISPSTAT sets the VCount setting; to lane 0 of IF clears
that lane's bits alone. -/
theorem test_byte_lanes :
    (let s := after16 [(0x04000008, 0x1234), (0x04000004, 0x0038)];
      (s.memWrite 0x04000009 .b1 0xAB).memRead 0x04000008 .b2 = 0xAB34 ∧
        (s.memWrite 0x04000008 .b1 0xAB).memRead 0x04000008 .b2 = 0x12AB ∧
        (s.memWrite 0x04000005 .b1 0x50).memRead 0x04000004 .b2 = 0x5038 ∧ s.memRead 0x04000009 .b1 = 0x12) ∧
      (let s := State.reset.setIc (icOf 0 0x3FFF true 0);
        (s.memWrite 0x04000202 .b1 0xFF).memRead 0x04000202 .b2 = 0x3F00 ∧
          (s.memWrite 0x04000203 .b1 0x01).memRead 0x04000202 .b2 = 0x3EFF) := by decide

/-- O58: every intercepted register at its address, and mirrors of two. -/
theorem witness_InterceptedRegisterWrites :
    ([(0x04000000, .dispcnt), (0x04000004, .dispstat), (0x04000007, .vcount), (0x04000008, .bgcnt 0), (0x0400000E, .bgcnt 3),
      (0x04000010, .bghofs 0), (0x04000012, .bgvofs 0), (0x0400001C, .bghofs 3), (0x0400001F, .bgvofs 3), (0x04000200, .ie),
      (0x04000203, .iff), (0x04000208, .ime), (0x03007FF8, .shadow), (0x03FFFFF9, .shadow), (0x04000400, .dispcnt)] :
      List (Word × DevReg)).all (fun e => State.reset.place (e.1 &&& 0xFFFFFFFE) = .dev e.2 false) = true := by decide

/-- O22: a word of each set, and the bounds of the Thumb condition field. -/
theorem witness_ConditionTable :
    decode (.arm 0x0A000000) = some (.b .eq 0) ∧ decode (.arm 0xF1A00000) = some (.movRsi .nv false 0 0 0 .lsl 0) ∧
      decode (.thumb 0xD000) = some (.tBcond .eq 0) ∧ (0xD : BitVec 4).toNat < 14 ∧
      decode (.thumb 0xDDFF) = some (.tBcond .le 0xFF) ∧ decode (.thumb 0xDE00) = some (.tUndDE 0xDE00) := by decide

/-- O59: counters in range at the last cycle of a frame and just before an HBlank; each event passed and not passed. -/
theorem witness_PpuFrameTiming :
    (let s := (State.reset.setIc (icOf 5 0 true 0)).setPpu { Ppu.reset with
        line := 227, lineCycle := 1231, hblankDone := true
        dispstat := { DispStat.reset with vblank := true, hblank := true, vblankIrq := true, vcountIrq := true } };
      s.ppu.countersOk = true ∧ Passes (227 * 1232 + 1231) 1 280896 (s.ppu.dispstat.lyc.toNat * 1232) ∧
        ¬Passes (227 * 1232 + 1231) 0 280896 (s.ppu.dispstat.lyc.toNat * 1232) ∧
        Passes (227 * 1232 + 1231) 280896 280896 197120 ∧
        (let t := advance 1 s; t.ppu.dispstat.vmatch = true ∧ t.ic.iff = 4 ∧ t.ic.shadow = 4 ∧ t.ppu.frameReady = false)) ∧
      (let s := (State.reset.setIc (icOf 2 0 true 0)).setPpu { Ppu.reset with
        lineCycle := 959, dispstat := { DispStat.reset with hblankIrq := true } };
      s.ppu.countersOk = true ∧ Passes 959 1 1232 960 ∧ ¬Passes 959 0 1232 960 ∧
        (let t := advance 1 s; t.ic.iff = 2 ∧ t.ic.shadow = 2 ∧ t.ppu.dispstat.vmatch = false)) := by
  have none : ∀ p n c, ¬Passes p 0 n c := fun p n c ⟨j, h, k, _⟩ => by omega
  exact ⟨⟨by decide, ⟨1, by decide, by decide, by decide⟩, none _ _ _, ⟨197121, by decide, by decide, by decide⟩, by decide⟩,
    ⟨by decide, ⟨1, by decide, by decide, by decide⟩, none _ _ _, by decide⟩⟩

/-- O60: a background in front, a sprite in front, no layer, and a mode without layers. -/
theorem witness_RenderedLineShowsFrontLayer :
    (let s := twoBackgrounds 0x0300 0x0800 0x0901 0;
      (bgPixel s 0 0 1 0).colour? s = some 0x001F ∧ objPixel s 0 1 0 = none ∧
        (bgPixel s 0 1 1 0).colour? s = some 0x03E0 ∧ (bgPixel s 0 2 1 0).colour? s = none ∧
        (bgPixel s 0 3 1 0).colour? s = none ∧ (s.ppu.bg[0].cnt.extractLsb' 0 2).toNat < (s.ppu.bg[1].cnt.extractLsb' 0 2).toNat) ∧
      (let s := oneSprite 0x0004;
        objPixel s 0 4 0 = some (3, .entry 259) ∧ candidate s 0 4 0 0 = some (3, .entry 259) ∧
          s.ppu.dispcnt.getLsbD 12 = true ∧ (∀ m, bgPixel s 0 m 4 0 = .transparent) ∧
          (List.range 128).all (fun j => j = 0 || candidate s 0 4 0 j = none) = true ∧ objPixel s 0 12 0 = none) ∧
      6 ≤ ((0x0306 : Half).extractLsb' 0 3).toNat := by decide

end Sys2Proof.Tests
end

section
/-! ARM data processing: its sums and differences as exact integer arithmetic, and the template of 40 R408 as one lemma over every
operation and operand form. -/

namespace Sys2Proof.Claims

open Sys2Proof.Machine

/-! ### Exact sums and differences (00 R13) -/

theorem toInt_bounds (a : Word) : -2147483648 ≤ a.toInt ∧ a.toInt < 2147483648 := ⟨a.le_toInt, a.toInt_lt⟩

theorem toInt_ofNat_le_one {n : Nat} (hn : n ≤ 1) : (BitVec.ofNat 32 n).toInt = n := by
  obtain rfl | rfl : n = 0 ∨ n = 1 := by omega
  · rfl
  · rfl

/-- `OverflowAdd` says that the exact signed sum, carry-in included, does not fit. -/
theorem overflowAdd_exact (a b : Word) {n : Nat} (hn : n ≤ 1) :
    overflowAdd a b (a + b + BitVec.ofNat 32 n) =
      !(decide (-2 ^ 31 ≤ a.toInt + b.toInt + n) && decide (a.toInt + b.toInt + n < 2 ^ 31)) := by
  have ha := toInt_bounds a
  have hb := toInt_bounds b
  have hr : (a + b + BitVec.ofNat 32 n).toInt = (a.toInt + b.toInt + n).bmod (2 ^ 32) := by
    rw [BitVec.toInt_add, BitVec.toInt_add, Int.bmod_add_bmod, toInt_ofNat_le_one hn]
  rw [Bool.eq_iff_iff]
  simp only [overflowAdd, BitVec.msb_eq_toInt, hr, Int.bmod_def, Bool.and_eq_true, beq_iff_eq, bne_iff_ne, ne_eq,
    decide_eq_decide, Bool.not_eq_true', Bool.and_eq_false_iff, decide_eq_false_iff_not]
  omega

/-- `OverflowSub` says that the exact signed difference, borrow-in included, does not fit. -/
theorem overflowSub_exact (a b : Word) {n : Nat} (hn : n ≤ 1) :
    overflowSub a b (a - b - BitVec.ofNat 32 n) =
      !(decide (-2 ^ 31 ≤ a.toInt - b.toInt - n) && decide (a.toInt - b.toInt - n < 2 ^ 31)) := by
  have ha := toInt_bounds a
  have hb := toInt_bounds b
  have hr : (a - b - BitVec.ofNat 32 n).toInt = (a.toInt - b.toInt - n).bmod (2 ^ 32) := by
    rw [BitVec.toInt_sub, BitVec.toInt_sub, Int.bmod_sub_bmod, toInt_ofNat_le_one hn]
  rw [Bool.eq_iff_iff]
  simp only [overflowSub, BitVec.msb_eq_toInt, hr, Int.bmod_def, Bool.and_eq_true, bne_iff_ne, ne_eq,
    decide_eq_decide, Bool.not_eq_true', Bool.and_eq_false_iff, decide_eq_false_iff_not]
  omega

/-- `x` is the exact unsigned sum, `y` the exact signed one. -/
theorem addOut_exact (a b : Word) {n : Nat} (hn : n ≤ 1) {x y : Int} (hx : x = a.toNat + b.toNat + n)
    (hy : y = a.toInt + b.toInt + n) :
    addOut a b n =
      { value := BitVec.ofInt 32 x
        c := decide (2 ^ 32 ≤ x)
        v := !(decide (-2 ^ 31 ≤ y) && decide (y < 2 ^ 31)) } := by
  subst hx hy
  simp only [addOut, overflowAdd_exact a b hn, AluOut.mk.injEq, and_true]
  constructor
  · simp [BitVec.ofInt_add]
  · simp only [carryFrom, decide_eq_decide]; omega

/-- `x` is the exact unsigned difference, `y` the exact signed one. -/
theorem subOut_exact (a b : Word) {n : Nat} (hn : n ≤ 1) {x y : Int} (hx : x = a.toNat - b.toNat - n)
    (hy : y = a.toInt - b.toInt - n) :
    subOut a b n =
      { value := BitVec.ofInt 32 x
        c := decide (0 ≤ x)
        v := !(decide (-2 ^ 31 ≤ y) && decide (y < 2 ^ 31)) } := by
  subst hx hy
  simp only [subOut, overflowSub_exact a b hn, AluOut.mk.injEq, and_true]
  constructor
  · simp [Int.sub_eq_add_neg, BitVec.ofInt_add, BitVec.ofInt_neg, BitVec.sub_eq_add_neg]
  · simp only [notBorrow, decide_eq_decide]; omega

/-- The eight arithmetic operations give the exact result, carry and overflow of the claims (40 R415 to R420, R423, R424). -/
theorem alu_arithmetic {op : DpOp} (h : isLogical op = false) (a b : Word) (shc : Bool) (p : Cpsr) :
    alu op a b shc p = { value := arithValue op a b p.c, c := arithC op a b p.c, v := arithV op a b p.c } := by
  have borrow : (((!p.c).toNat : Nat) : Int) = 1 - p.c.toNat := by cases p.c <;> rfl
  cases op with
  | add | cmn => exact addOut_exact a b (Nat.zero_le 1) (by simp [exact]) (by simp [exact])
  | adc => exact addOut_exact a b p.c.toNat_le rfl rfl
  | sub | cmp => exact subOut_exact a b (Nat.zero_le 1) (by simp [exact]) (by simp [exact])
  | sbc => exact subOut_exact a b (!p.c).toNat_le (by rw [borrow]; rfl) (by rw [borrow]; rfl)
  | rsb => exact subOut_exact b a (Nat.zero_le 1) (by simp [exact]) (by simp [exact])
  | rsc => exact subOut_exact b a (!p.c).toNat_le (by rw [borrow]; rfl) (by rw [borrow]; rfl)
  | _ => cases h

/-! ### The second operand (40 R405 to R407) -/

theorem rotImm_eq (rot : BitVec 4) (imm8 : BitVec 8) :
    rotImm rot imm8 = (imm8.setWidth 32).rotateRight (2 * rot.toNat) := by
  unfold rotImm rorWord zext
  rw [Nat.mod_eq_of_lt (by omega)]

theorem operand2_imm (s : State) (rot : BitVec 4) (imm8 : BitVec 8) :
    operand2 s (.imm rot imm8) = immOperand s rot imm8 := by
  simp only [operand2, immOperand, rotImm_eq]

theorem operand2_rsi (s : State) (n : BitVec 5) (sh : ShiftType) (rm : Reg) :
    operand2 s (.rsi n sh rm) = rsiOperand s n sh rm := by
  cases sh <;> rfl

theorem operand2_rsr (s : State) (rs : Reg) (sh : ShiftType) (rm : Reg) :
    operand2 s (.rsr rs sh rm) = rsrOperand s rs sh rm := by
  simp [operand2, rsrOperand]

/-! ### The template (40 R408) -/

/-- What a data-processing instruction does, in any operation and operand form: the template, or the stop of a register-shift
form with R15. -/
theorem exec_dpInstr (op : DpOp) (f : DpForm) (c : Cond) (sf : Bool) (rn rd : Reg) (s : State) :
    exec (dpInstr op f c sf rn rd) s =
      armIf c s (if shiftNamesR15 op f rn rd then .fault .dpRegshiftR15 else dataProc op sf rn rd (operand2 s f) s) := by
  cases f with
  | imm rot imm8 => rw [operand2_imm]; cases op <;> rfl
  | rsi n sh rm => rw [operand2_rsi]; cases op <;> rfl
  | rsr rs sh rm => rw [operand2_rsr]; cases op <;> rfl

theorem isTest_eq_not_writesRd (op : DpOp) : op.isTest = !writesRd op := by cases op <;> rfl

@[simp] theorem writeArm_cpsr (s : State) (rd : Reg) (v : Word) : (s.writeArm rd v).cpsr = s.cpsr := by
  unfold State.writeArm
  split <;> rfl

/-- 10 R107. -/
theorem armWrites_writeArm {s t : State} (hpc : t.pc = s.pc) (rd : Reg) (v : Word) :
    ArmWrites s (t.writeArm rd v) rd v := by
  unfold ArmWrites
  split
  case isTrue h => unfold State.writeArm; rw [h, bank_pc]; rfl
  case isFalse h =>
    obtain ⟨g, hg⟩ := bank_gen t.cpsr.mode h
    unfold reg
    rw [writeArm_cpsr, State.regOf_gen _ _ hg]
    simp [State.writeArm, hg, hpc]

theorem resultFlags_withResult {s t : State} {r : AluOut} (h : t.cpsr = s.cpsr.withResult r) :
    ResultFlags t r.value r.c r.v := by
  unfold ResultFlags FlagsAre
  rw [h]
  exact ⟨BitVec.msb_eq_getLsbD_last r.value, rfl, rfl, rfl⟩

/-- What the end of the template leaves where it is no PSR restore: Rd or nothing written, the flags or no status bit changed. -/
theorem dpFinish_completes {op : DpOp} {sf : Bool} {rd : Reg} (h : restores op sf rd = false) (r : AluOut) (s : State) :
    Completes (dpFinish op sf rd r s) fun t =>
      (if writesRd op then ArmWrites s t rd r.value else t.regs = s.regs ∧ t.pc = s.pc + 4) ∧
      (if sf || !writesRd op then ResultFlags t r.value r.c r.v else t.cpsr = s.cpsr) ∧
      t.cpsr.t = s.cpsr.t ∧ t.cpsr.mode = s.cpsr.mode := by
  unfold dpFinish
  rw [isTest_eq_not_writesRd]
  cases hw : writesRd op with
  | false => exact ⟨_, rfl, ⟨rfl, rfl⟩, by simpa using resultFlags_withResult rfl, rfl, rfl⟩
  | true =>
    have hr : (sf && decide (rd = 15)) = false := by simpa [restores, hw] using h
    rw [hr]
    cases sf with
    | false => exact ⟨_, rfl, armWrites_writeArm rfl rd _, by simp⟩
    | true =>
      refine ⟨_, rfl, armWrites_writeArm rfl rd _, resultFlags_withResult (writeArm_cpsr _ _ _), ?_⟩
      rw [writeArm_cpsr]
      exact ⟨rfl, rfl⟩

/-- A data-processing instruction that runs and is no PSR restore ends as its template does. -/
theorem exec_dpInstr_runs {op : DpOp} {f : DpForm} {c : Cond} {rn rd : Reg} {s : State} (hc : condPass c s.cpsr = true)
    (hshift : shiftNamesR15 op f rn rd = false) (sf : Bool) :
    exec (dpInstr op f c sf rn rd) s =
      dpFinish op sf rd (alu op (s.regArm rn) (operand2 s f).1 (operand2 s f).2 s.cpsr) s := by
  rw [exec_dpInstr, armIf, if_pos hc, hshift]
  rfl

/-- Settles O26: the template's end, with the result, carry and overflow of exact arithmetic. -/
theorem arithmeticDataProcessing : Obligations.ArithmeticDataProcessing := by
  intro op f c sf rn rd s harith hc hshift hrestore
  rw [exec_dpInstr_runs hc hshift, alu_arithmetic harith]
  exact dpFinish_completes hrestore _ s

end Sys2Proof.Claims
end

section
/-! Which instructions stop, and with which tag (00 R12, 60 R903): for each shared operation, the tags of its restrictions are exactly
what it tests; then for all of `exec`. -/

namespace Sys2Proof.Claims

open Sys2Proof.Machine

/-- The outcome is the one a list of tags asks for: a next state where it is empty, else a stop with one of its tags. -/
def Answers (l : List Fault) (o : Host.Outcome State Fault Refusal) : Prop :=
  match o with
  | .next _ => l = []
  | .fault f => f ∈ l
  | .refused _ => False

@[simp] theorem answers_next {l : List Fault} {t : State} : Answers l (.next t) ↔ l = [] := Iff.rfl

@[simp] theorem answers_fault {l : List Fault} {f : Fault} : Answers l (.fault f) ↔ f ∈ l := Iff.rfl

theorem Answers.next {t : State} : Answers [] (.next t) := rfl

theorem Answers.ite {l : List Fault} {c : Prop} [Decidable c] {a b : Host.Outcome State Fault Refusal}
    (ha : c → Answers l a) (hb : ¬c → Answers l b) : Answers l (if c then a else b) := by
  split
  · exact ha ‹_›
  · exact hb ‹_›

theorem Answers.armIf {l : List Fault} {c : Cond} {s : State} {o : Host.Outcome State Fault Refusal}
    (hc : condPass c s.cpsr = true) (h : Answers l o) : Answers l (armIf c s o) := by
  rw [Machine.armIf, if_pos hc]; exact h

theorem Answers.completes_or_stops {l : List Fault} {o : Host.Outcome State Fault Refusal} (h : Answers l o) :
    (l = [] → ∃ t, o = .next t) ∧ (l ≠ [] → ∃ f, f ∈ l ∧ o = .fault f) := by
  cases o with
  | next t => exact ⟨fun _ => ⟨t, rfl⟩, fun hl => absurd h hl⟩
  | fault f => exact ⟨fun hl => absurd (hl ▸ h) List.not_mem_nil, fun _ => ⟨f, h, rfl⟩⟩
  | refused => exact h.elim

/-! ### Tags -/

@[simp] theorem mem_tagIf {b : Bool} {f g : Fault} : g ∈ tagIf b f ↔ b = true ∧ g = f := by
  cases b <;> simp [tagIf]

@[simp] theorem tagIf_eq_nil {b : Bool} {f : Fault} : tagIf b f = [] ↔ b = false := by
  cases b <;> simp [tagIf]

@[simp] theorem head?_tagIf (b : Bool) (f : Fault) : (tagIf b f).head? = if b then some f else none := by
  cases b <;> rfl

theorem ite_some_or {c : Prop} [Decidable c] (f : Fault) (o : Option Fault) :
    (if c then some f else none).or o = if c then some f else o := by
  split <;> rfl

@[simp] theorem tagIf_true (f : Fault) : tagIf true f = [f] := rfl

@[simp] theorem tagIf_false (f : Fault) : tagIf false f = [] := rfl

theorem noSpsrMode_eq (m : Mode) : noSpsrMode m = m.exc?.isNone := by cases m <;> rfl

@[simp] theorem restoreTags_false (s : State) : restoreTags false s = [] := rfl

/-! ### PSR restores (10 R116) -/

theorem toCpsr?_isSome (p : Psr) : p.toCpsr?.isSome = (Mode.ofBits? p.m).isSome := by
  unfold Psr.toCpsr?
  cases Mode.ofBits? p.m <;> rfl

/-- From any state with the status registers of `s`: LDM restores after its loads. -/
theorem Answers.psrRestore {s t : State} (hc : t.cpsr = s.cpsr) (hs : t.spsr = s.spsr) (v : Word) :
    Answers (restoreTags true s) (t.psrRestore v) := by
  unfold State.psrRestore restoreTags legalSpsr
  rw [hc, noSpsrMode_eq]
  cases s.cpsr.mode.exc? with
  | none => simp
  | some e =>
    have hp := toCpsr?_isSome (s.spsrOf e)
    simp only [State.spsrOf_congr hs e, ← hp]
    cases (s.spsrOf e).toCpsr? <;> simp

/-! ### Data processing (40 R407, R412) -/

theorem Answers.dpFinish (op : DpOp) (sf : Bool) (rd : Reg) (r : AluOut) (s : State) :
    Answers (restoreTags (restores op sf rd) s) (dpFinish op sf rd r s) := by
  cases h : restores op sf rd with
  | false =>
    obtain ⟨t, ht, -⟩ := dpFinish_completes h r s
    rw [ht]; rfl
  | true =>
    have h' : (sf = true ∧ rd = 15) ∧ writesRd op = true := by simpa [restores] using h
    simp only [Machine.dpFinish, isTest_eq_not_writesRd, h']
    exact Answers.psrRestore rfl rfl _

/-- The tags of a data-processing instruction in its operand form. -/
def dpTags (op : DpOp) (f : DpForm) (sf : Bool) (rn rd : Reg) (s : State) : List Fault :=
  match f with
  | .imm _ _ => restoreTags (restores op sf rd) s
  | .rsi _ _ _ => restoreTags (restores op sf rd) s
  | .rsr _ _ _ => tagIf (shiftNamesR15 op f rn rd) .dpRegshiftR15

/-- No form but the register-shift one has R15 restrictions, and no operation but those that write Rd restores. -/
theorem tags_dpInstr (op : DpOp) (f : DpForm) (c : Cond) (sf : Bool) (rn rd : Reg) (s : State) :
    tags (dpInstr op f c sf rn rd) s = dpTags op f sf rn rd s := by
  cases f with
  | imm => cases op <;> simp [dpInstr, tags, dpTags, restores, writesRd]
  | rsi => cases op <;> simp [dpInstr, tags, dpTags, restores, writesRd]
  | rsr rs sh rm =>
    have perm (op : DpOp) (l : List Reg) (h : (l.any fun r => r = 15) = shiftNamesR15 op (.rsr rs sh rm) rn rd) :
        shiftTags l = dpTags op (.rsr rs sh rm) sf rn rd s := by rw [shiftTags, h]; rfl
    cases op <;> exact perm _ _ (by simp [shiftNamesR15, writesRd, Bool.or_comm, Bool.or_left_comm])

theorem Answers.dpInstr {c : Cond} {s : State} (hc : condPass c s.cpsr = true) (op : DpOp) (f : DpForm) (sf : Bool)
    (rn rd : Reg) :
    Answers (tags (dpInstr op f c sf rn rd) s) (exec (dpInstr op f c sf rn rd) s) := by
  rw [tags_dpInstr, exec_dpInstr]
  refine Answers.armIf hc ?_
  cases f with
  | imm => exact Answers.dpFinish op sf rd _ s
  | rsi => exact Answers.dpFinish op sf rd _ s
  | rsr rs sh rm =>
    refine Answers.ite (fun h => by simp [dpTags, h]) fun h => ?_
    have hr : restores op sf rd = false := by
      by_contra hr
      exact h (by simp_all [restores, shiftNamesR15])
    have hd : Answers (restoreTags (restores op sf rd) s) (dataProc op sf rn rd (operand2 s (.rsr rs sh rm)) s) :=
      Answers.dpFinish op sf rd _ s
    rw [hr] at hd
    simpa [dpTags, h] using hd

/-! ### PSR transfer (40 R431 to R433) -/

theorem Answers.execMrs {c : Cond} {s : State} (hc : condPass c s.cpsr = true) (r : Bool) (rd : Reg) :
    Answers (tagIf (rd = 15) .mrsR15 ++ tagIf (r && noSpsrMode s.cpsr.mode) .noSpsr) (execMrs c r rd s) := by
  refine Answers.armIf hc (Answers.ite (fun h => by simp [h]) fun h => ?_)
  rw [noSpsrMode_eq]
  unfold mrsValue
  cases r with
  | false => simp [h]
  | true => cases s.cpsr.mode.exc? <;> simp [h]

theorem privileged_eq (m : Mode) : m.privileged = !decide (m = .usr) := by cases m <;> rfl

theorem Answers.msrSpsr (mask : BitVec 4) (v : Word) (s : State) :
    Answers (msrTags true mask v s) (msrSpsr mask v s) := by
  unfold Machine.msrSpsr msrTags
  rw [noSpsrMode_eq]
  cases s.cpsr.mode.exc? <;> simp

theorem Answers.msrCpsr (mask : BitVec 4) (v : Word) (s : State) :
    Answers (msrTags false mask v s) (msrCpsr mask v s) := by
  unfold Machine.msrCpsr msrTags
  rw [privileged_eq]
  refine Answers.ite (fun hw => Answers.ite (fun ht => ?_) fun ht => ?_) fun hw => ?_
  · simp_all
  · cases Mode.ofBits? (v.extractLsb' 0 5) <;> simp_all
  · simp_all

theorem Answers.msr (r : Bool) (mask : BitVec 4) (v : Word) (s : State) : Answers (msrTags r mask v s) (msr r mask v s) := by
  cases r with
  | false => exact Answers.msrCpsr mask v s
  | true => exact Answers.msrSpsr mask v s

/-- With Rm = 15 it stops for that, or, where the SPSR it would write is missing, for that (40 R433; 60 R930). -/
theorem Answers.execMsrReg {c : Cond} {s : State} (hc : condPass c s.cpsr = true) (r : Bool) (mask : BitVec 4) (rm : Reg) :
    Answers (tagIf (rm = 15) .msrR15 ++ msrTags r mask (s.regArm rm) s) (execMsrReg c r mask rm s) := by
  refine Answers.armIf hc (Answers.ite (fun h => by simp_all) fun h => ?_)
  by_cases hr : rm = 15
  · have hn : r = true ∧ s.cpsr.mode.exc? = none := by simpa [hr] using h
    simp [Machine.msr, Machine.msrSpsr, msrTags, hn, noSpsrMode_eq]
  · simpa [hr] using Answers.msr r mask (s.regArm rm) s

/-! ### Multiplies (41 R456) -/

theorem Answers.mulShort (sf : Bool) (rd rs rm : Reg) (u : Bool) (v : Word) (s : State) :
    Answers (tagIf (rd = 15 || rs = 15 || rm = 15 || u) .mulR15 ++ tagIf (rd = rm) .mulRdEqRm)
      (mulShort sf rd rs rm u v s) :=
  Answers.ite (fun h => by simp [h]) fun h => Answers.ite (fun h' => by simp [h']) fun h' => by simp_all

theorem Answers.mla (sf : Bool) (rd rn rs rm : Reg) (v : Word) (s : State) :
    Answers (tagIf (rd = 15 || rn = 15 || rs = 15 || rm = 15) .mulR15 ++ tagIf (rd = rm) .mulRdEqRm)
      (Machine.mulShort sf rd rs rm (rn = 15) v s) := by
  have h := Answers.mulShort sf rd rs rm (rn = 15) v s
  rwa [Bool.or_right_comm, Bool.or_right_comm (rd = 15)] at h

theorem Answers.mulLong (sf : Bool) (hi lo rs rm : Reg) (p : BitVec 64) (s : State) :
    Answers (tagIf (hi = 15 || lo = 15 || rs = 15 || rm = 15) .mulR15 ++ tagIf (hi = lo || hi = rm || lo = rm) .mullRegOverlap)
      (mulLong sf hi lo rs rm p s) :=
  Answers.ite (fun h => by simp_all) fun h => Answers.ite (fun h' => by simp_all) fun h' => by simp_all

/-! ### Transfers (42 R500 to R505, R520, R530 to R542, R560) -/

theorem offsetR15_eq (off : Offset) : offsetR15 off = offsetNamesR15 off := by cases off <;> rfl

theorem halfOffsetR15_eq (off : HalfOffset) : halfOffsetR15 off = halfOffsetNamesR15 off := by cases off <;> rfl

theorem halfOffset2_eq (s : State) (off : HalfOffset) : halfOffset2 s off = halfOffsetValue s off := by cases off <;> rfl

theorem addrOf_eq_accessAddr (s : State) (p u : Bool) (rn : Reg) (o : Word) :
    addrOf s p u rn o = accessAddr s p u rn o := rfl

/-- The model tests the restrictions of a single load in the order of its tags, so it stops with the first. -/
theorem loadFault_eq_head? (byte wb : Bool) (rn rd : Reg) (off : Offset) :
    loadFault byte wb rn rd off = (singleTags true byte wb rn rd off).head? := by
  simp [loadFault, singleTags, offsetR15_eq, ite_some_or]

theorem storeFault_eq_head? (byte wb : Bool) (rn rd : Reg) (off : Offset) :
    storeFault byte wb rn rd off = (singleTags false byte wb rn rd off).head? := by
  simp [storeFault, singleTags, offsetR15_eq, ite_some_or]

theorem halfFault_eq_head? (load half p u w : Bool) (rn rd : Reg) (off : HalfOffset) (s : State) :
    halfFault load p w rn rd off (half && (accessAddr s p u rn (halfOffsetValue s off)).getLsbD 0) =
      (halfTags load half p u w rn rd off s).head? := by
  simp [halfFault, halfTags, halfOffsetR15_eq, halfOffset2_eq, addrOf_eq_accessAddr, writesBack, ite_some_or]

theorem swapFault_eq_head? (rn rd rm : Reg) :
    swapFault rn rd rm = (tagIf (rn = 15 || rd = 15 || rm = 15) .swpR15 ++ tagIf (rn = rm || rn = rd) .swpRnOverlap).head? := by
  simp [swapFault, ite_some_or]

theorem Answers.loadSingle (byte p u w : Bool) (rn rd : Reg) (off : Offset) (s : State) :
    Answers (singleTags true byte (writesBack p w) rn rd off) (loadSingle byte p u w rn rd off s) := by
  unfold Machine.loadSingle
  rw [loadFault_eq_head?]
  cases singleTags true byte (writesBack p w) rn rd off <;> simp

theorem Answers.storeSingle (byte p u w : Bool) (rn rd : Reg) (off : Offset) (s : State) :
    Answers (singleTags false byte (writesBack p w) rn rd off) (storeSingle byte p u w rn rd off s) := by
  unfold Machine.storeSingle
  rw [storeFault_eq_head?]
  cases singleTags false byte (writesBack p w) rn rd off <;> simp

theorem Answers.loadHalf {k : HalfLoad} {half : Bool} (hk : ∀ a, k.misaligned a = (half && a.getLsbD 0)) (p u w : Bool)
    (rn rd : Reg) (off : HalfOffset) (s : State) :
    Answers (halfTags true half p u w rn rd off s) (loadHalf k p u w rn rd off s) := by
  unfold Machine.loadHalf
  simp only [hk, halfFault_eq_head?]
  cases halfTags true half p u w rn rd off s <;> simp

theorem Answers.storeHalf (p u w : Bool) (rn rd : Reg) (off : HalfOffset) (s : State) :
    Answers (halfTags false true p u w rn rd off s) (storeHalf p u w rn rd off s) := by
  have hf := halfFault_eq_head? false true p u w rn rd off s
  rw [Bool.true_and] at hf
  unfold Machine.storeHalf
  simp only [hf]
  cases halfTags false true p u w rn rd off s <;> simp

theorem Answers.swap (byte : Bool) (rn rd rm : Reg) (s : State) :
    Answers (tagIf (rn = 15 || rd = 15 || rm = 15) .swpR15 ++ tagIf (rn = rm || rn = rd) .swpRnOverlap)
      (swap byte rn rd rm s) := by
  unfold Machine.swap
  rw [swapFault_eq_head?]
  cases tagIf (rn = 15 || rd = 15 || rm = 15) .swpR15 ++ tagIf (rn = rm || rn = rd) .swpRnOverlap <;> simp

/-! ### Block transfers -/

@[simp] theorem setRegOf_cpsr (s : State) (m : Mode) (n : Reg) (v : Word) : (s.setRegOf m n v).cpsr = s.cpsr := by
  unfold State.setRegOf; split <;> rfl

@[simp] theorem setRegOf_spsr (s : State) (m : Mode) (n : Reg) (v : Word) : (s.setRegOf m n v).spsr = s.spsr := by
  unfold State.setRegOf; split <;> rfl

@[simp] theorem loadRegs_cpsr (rs : List Reg) (s : State) (m : Mode) (a : Word) : (s.loadRegs m a rs).cpsr = s.cpsr := by
  induction rs generalizing s a with
  | nil => rfl
  | cons r rest ih => rw [State.loadRegs, ih, setRegOf_cpsr]

@[simp] theorem loadRegs_spsr (rs : List Reg) (s : State) (m : Mode) (a : Word) : (s.loadRegs m a rs).spsr = s.spsr := by
  induction rs generalizing s a with
  | nil => rfl
  | cons r rest ih => rw [State.loadRegs, ih, setRegOf_spsr]

theorem ldmLoaded_cpsr (p u sb w : Bool) (rn : Reg) (list : BitVec 16) (s : State) :
    (ldmLoaded p u sb w rn list s).cpsr = s.cpsr := by
  cases w <;> simp [ldmLoaded, blockWriteBack, State.setReg]

theorem ldmLoaded_spsr (p u sb w : Bool) (rn : Reg) (list : BitVec 16) (s : State) :
    (ldmLoaded p u sb w rn list s).spsr = s.spsr := by
  cases w <;> simp [ldmLoaded, blockWriteBack, State.setReg]

/-- The restrictions of LDM but for those of its PSR restore. -/
def ldmTags (sb w : Bool) (rn : Reg) (list : BitVec 16) (m : Mode) : List Fault :=
  tagIf (list = 0) .ldmStmEmptyList ++ tagIf (rn = 15) .ldmStmRnR15 ++
    tagIf (sb && !list.getLsbD 15 && w) .userBankWriteback ++
    tagIf (sb && !list.getLsbD 15 && noSpsrMode m) .userBankInUsrSys ++ tagIf (w && list.getLsbD rn.val) .ldmWbRnInList

/-- The restrictions of STM. -/
def stmTags (sb w : Bool) (rn : Reg) (list : BitVec 16) (m : Mode) : List Fault :=
  tagIf (list = 0) .ldmStmEmptyList ++ tagIf (rn = 15) .ldmStmRnR15 ++ tagIf (sb && w) .userBankWriteback ++
    tagIf (sb && noSpsrMode m) .userBankInUsrSys

theorem ldmFault_eq_head? (sb w : Bool) (rn : Reg) (list : BitVec 16) (m : Mode) :
    ldmFault sb w rn list m = (ldmTags sb w rn list m).head? := by
  simp [ldmFault, ldmTags, inList, Mode.isUserBank, noSpsrMode, ite_some_or]

theorem stmFault_eq_head? (sb w : Bool) (rn : Reg) (list : BitVec 16) (m : Mode) :
    stmFault sb w rn list m = (stmTags sb w rn list m).head? := by
  simp [stmFault, stmTags, Mode.isUserBank, noSpsrMode, ite_some_or]

theorem Answers.ldm (p u sb w : Bool) (rn : Reg) (list : BitVec 16) (s : State) :
    Answers (ldmTags sb w rn list s.cpsr.mode ++ restoreTags (sb && inList list 15) s) (ldm p u sb w rn list s) := by
  unfold Machine.ldm
  rw [ldmFault_eq_head?]
  cases ldmTags sb w rn list s.cpsr.mode with
  | cons f l => simp
  | nil =>
    cases inList list 15 with
    | false => simp
    | true =>
      cases sb with
      | false => simp
      | true =>
        simpa using Answers.psrRestore (ldmLoaded_cpsr p u true w rn list s) (ldmLoaded_spsr p u true w rn list s) _

theorem Answers.stm (p u sb w : Bool) (rn : Reg) (list : BitVec 16) (s : State) :
    Answers (stmTags sb w rn list s.cpsr.mode) (stm p u sb w rn list s) := by
  unfold Machine.stm
  rw [stmFault_eq_head?]
  cases stmTags sb w rn list s.cpsr.mode <;> simp

/-! ### Branches, system calls and anomalies (43 R602, R610, R620) -/

theorem Answers.branchExchange (s : State) (v : Word) : Answers (bxTags v) (branchExchange s v) := by
  refine Answers.ite (fun h => ?_) fun h => Answers.ite (fun h' => ?_) fun h' => ?_ <;> simp_all [bxTags]

theorem Answers.softwareInterrupt (n : Byte) (len : Word) (s : State) : Answers [] (softwareInterrupt n len s) :=
  Answers.ite (fun _ => .next) fun _ => .next

theorem Answers.armAnomaly (w : Word) (s : State) : Answers [] (armAnomaly w s) :=
  Answers.ite (fun _ => .next) fun _ => .next

/-! ### Thumb (44 R674, R683, R684; 45 R705 to R723) -/

theorem Answers.thumbAlu (op : DpOp) (rd : LoReg) (a b : Word) (c : Bool) (s : State) : Answers [] (thumbAlu op rd a b c s) :=
  Answers.ite (fun _ => .next) fun _ => .next

theorem Answers.thumbHigh (rs rd : Reg) (t : State) :
    Answers (tagIf (rs.val < 8 && rd.val < 8) .thumbHiLoLo) (if bothLow rs rd then .fault .thumbHiLoLo else .next t) :=
  Answers.ite (fun h => by simpa [bothLow] using h) fun h => by simpa [bothLow] using h

theorem Answers.thumbLoadHalf (signed : Bool) (rd : LoReg) (a : Word) (s : State) :
    Answers (tagIf (a.getLsbD 0) .hwMisaligned) (thumbLoadHalf signed rd a s) :=
  Answers.ite (fun h => by simp [h]) fun h => by simpa [thumbLoaded] using h

theorem Answers.thumbStoreHalf (rd : LoReg) (a : Word) (s : State) :
    Answers (tagIf (a.getLsbD 0) .hwMisaligned) (thumbStoreHalf rd a s) :=
  Answers.ite (fun h => by simp [h]) fun h => by simpa [thumbStored] using h

theorem Answers.tMul (rs rd : LoReg) (s : State) : Answers (tagIf (rs = rd) .mulRdEqRm) (execTMul rs rd s) :=
  Answers.ite (fun h => by simp [h]) fun h => by simpa using Ne.symm h

theorem Answers.tBx (h1 : Bool) (rs : Reg) (rd : LoReg) (s : State) :
    Answers (tagIf h1 .thumbBxH1 ++ bxTags (s.regThumb rs)) (execTBx h1 rs rd s) := by
  cases h1 with
  | false => exact Answers.branchExchange s (s.regThumb rs)
  | true => exact List.mem_cons_self

theorem zext_append_zero (off : BitVec 5) : zext (off ++ 0b0#1) = off.setWidth 32 * 2 := by
  revert off; decide

theorem stackCount_eq_zero (r : Bool) (list : BitVec 8) : stackCount r list = 0 ↔ (list = 0 && !r) = true := by
  have hlist : loRegList list = [] ↔ list = 0 := by
    simp only [loRegList, List.filter_eq_nil_iff]
    constructor
    · intro h
      exact BitVec.eq_of_getLsbD_eq fun i hi => by simpa using h ⟨i, hi⟩ (List.mem_finRange _)
    · rintro rfl
      simp
  cases r <;> simp [stackCount, hlist]

/-- A block transfer whose one restriction is on an empty list (45 R720 to R723). -/
theorem Answers.emptyList {c : Prop} [Decidable c] {b : Bool} (h : c ↔ b = true) {o : Host.Outcome State Fault Refusal}
    (ho : Answers [] o) : Answers (tagIf b .ldmStmEmptyList) (if c then .fault .ldmStmEmptyList else o) := by
  refine Answers.ite (fun hc => by simp [h.mp hc]) fun hc => ?_
  rw [h, Bool.not_eq_true] at hc
  rwa [hc]

/-! ### All of exec -/

/-- Every instruction whose condition passes answers its tags. -/
theorem exec_answers (i : Instr) (s : State) (h : passes i s = true) : Answers (tags i s) (exec i s) := by
  cases i with
  | mul _ sf rd _ rs rm => exact Answers.armIf h (by simpa [tags] using Answers.mulShort sf rd rs rm false _ s)
  | mla _ sf rd rn rs rm => exact Answers.armIf h (Answers.mla sf rd rn rs rm _ s)
  | umull | umlal | smull | smlal => exact Answers.armIf h (Answers.mulLong _ _ _ _ _ _ s)
  | swp | swpb => exact Answers.armIf h (Answers.swap _ _ _ _ s)
  | ldrh | ldrsh => exact Answers.armIf h (Answers.loadHalf (half := true) (fun _ => rfl) _ _ _ _ _ _ s)
  | ldrsb => exact Answers.armIf h (Answers.loadHalf (half := false) (fun _ => rfl) _ _ _ _ _ _ s)
  | strh => exact Answers.armIf h (Answers.storeHalf _ _ _ _ _ _ s)
  | mrs => exact Answers.execMrs h _ _
  | msrReg => exact Answers.execMsrReg h _ _ _
  | msrImm _ r mask rot imm8 =>
    refine Answers.armIf h ?_
    rw [rotImm_eq]
    exact Answers.msr r mask _ s
  | bx => exact Answers.armIf h (Answers.branchExchange s _)
  | undMulSwap | undHalfword | undPsr | undMsrImm | und011 | undCopTransfer | undCopOp => exact Answers.armAnomaly _ s
  | andImm => exact Answers.dpInstr h .and (.imm _ _) _ _ _
  | andRsi => exact Answers.dpInstr h .and (.rsi _ _ _) _ _ _
  | andRsr => exact Answers.dpInstr h .and (.rsr _ _ _) _ _ _
  | eorImm => exact Answers.dpInstr h .eor (.imm _ _) _ _ _
  | eorRsi => exact Answers.dpInstr h .eor (.rsi _ _ _) _ _ _
  | eorRsr => exact Answers.dpInstr h .eor (.rsr _ _ _) _ _ _
  | subImm => exact Answers.dpInstr h .sub (.imm _ _) _ _ _
  | subRsi => exact Answers.dpInstr h .sub (.rsi _ _ _) _ _ _
  | subRsr => exact Answers.dpInstr h .sub (.rsr _ _ _) _ _ _
  | rsbImm => exact Answers.dpInstr h .rsb (.imm _ _) _ _ _
  | rsbRsi => exact Answers.dpInstr h .rsb (.rsi _ _ _) _ _ _
  | rsbRsr => exact Answers.dpInstr h .rsb (.rsr _ _ _) _ _ _
  | addImm => exact Answers.dpInstr h .add (.imm _ _) _ _ _
  | addRsi => exact Answers.dpInstr h .add (.rsi _ _ _) _ _ _
  | addRsr => exact Answers.dpInstr h .add (.rsr _ _ _) _ _ _
  | adcImm => exact Answers.dpInstr h .adc (.imm _ _) _ _ _
  | adcRsi => exact Answers.dpInstr h .adc (.rsi _ _ _) _ _ _
  | adcRsr => exact Answers.dpInstr h .adc (.rsr _ _ _) _ _ _
  | sbcImm => exact Answers.dpInstr h .sbc (.imm _ _) _ _ _
  | sbcRsi => exact Answers.dpInstr h .sbc (.rsi _ _ _) _ _ _
  | sbcRsr => exact Answers.dpInstr h .sbc (.rsr _ _ _) _ _ _
  | rscImm => exact Answers.dpInstr h .rsc (.imm _ _) _ _ _
  | rscRsi => exact Answers.dpInstr h .rsc (.rsi _ _ _) _ _ _
  | rscRsr => exact Answers.dpInstr h .rsc (.rsr _ _ _) _ _ _
  | tstImm => exact Answers.dpInstr h .tst (.imm _ _) true _ _
  | tstRsi => exact Answers.dpInstr h .tst (.rsi _ _ _) true _ _
  | tstRsr => exact Answers.dpInstr h .tst (.rsr _ _ _) true _ _
  | teqImm => exact Answers.dpInstr h .teq (.imm _ _) true _ _
  | teqRsi => exact Answers.dpInstr h .teq (.rsi _ _ _) true _ _
  | teqRsr => exact Answers.dpInstr h .teq (.rsr _ _ _) true _ _
  | cmpImm => exact Answers.dpInstr h .cmp (.imm _ _) true _ _
  | cmpRsi => exact Answers.dpInstr h .cmp (.rsi _ _ _) true _ _
  | cmpRsr => exact Answers.dpInstr h .cmp (.rsr _ _ _) true _ _
  | cmnImm => exact Answers.dpInstr h .cmn (.imm _ _) true _ _
  | cmnRsi => exact Answers.dpInstr h .cmn (.rsi _ _ _) true _ _
  | cmnRsr => exact Answers.dpInstr h .cmn (.rsr _ _ _) true _ _
  | orrImm => exact Answers.dpInstr h .orr (.imm _ _) _ _ _
  | orrRsi => exact Answers.dpInstr h .orr (.rsi _ _ _) _ _ _
  | orrRsr => exact Answers.dpInstr h .orr (.rsr _ _ _) _ _ _
  | movImm => exact Answers.dpInstr h .mov (.imm _ _) _ _ _
  | movRsi => exact Answers.dpInstr h .mov (.rsi _ _ _) _ _ _
  | movRsr => exact Answers.dpInstr h .mov (.rsr _ _ _) _ _ _
  | bicImm => exact Answers.dpInstr h .bic (.imm _ _) _ _ _
  | bicRsi => exact Answers.dpInstr h .bic (.rsi _ _ _) _ _ _
  | bicRsr => exact Answers.dpInstr h .bic (.rsr _ _ _) _ _ _
  | mvnImm => exact Answers.dpInstr h .mvn (.imm _ _) _ _ _
  | mvnRsi => exact Answers.dpInstr h .mvn (.rsi _ _ _) _ _ _
  | mvnRsr => exact Answers.dpInstr h .mvn (.rsr _ _ _) _ _ _
  | ldrPre | ldrbPre => exact Answers.armIf h (Answers.loadSingle _ true _ _ _ _ _ s)
  | ldrPost | ldrbPost => exact Answers.armIf h (Answers.loadSingle _ false _ false _ _ _ s)
  | ldrt | ldrbt => exact Answers.armIf h (Answers.loadSingle _ false _ true _ _ _ s)
  | strPre | strbPre => exact Answers.armIf h (Answers.storeSingle _ true _ _ _ _ _ s)
  | strPost | strbPost => exact Answers.armIf h (Answers.storeSingle _ false _ false _ _ _ s)
  | strt | strbt => exact Answers.armIf h (Answers.storeSingle _ false _ true _ _ _ s)
  | ldm => exact Answers.armIf h (Answers.ldm _ _ _ _ _ _ s)
  | stm => exact Answers.armIf h (Answers.stm _ _ _ _ _ _ s)
  | b | bl => exact Answers.armIf h .next
  | swi => exact Answers.armIf h (Answers.softwareInterrupt _ _ s)
  | tSwi => exact Answers.softwareInterrupt _ _ s
  | tLslImm | tLsrImm | tAsrImm | tLslReg | tLsrReg | tAsrReg | tRor => exact .next
  | tAddReg | tSubReg | tAddImm3 | tSubImm3 | tMovImm | tCmpImm | tAddImm8 | tSubImm8 | tAnd | tEor | tAdc | tSbc | tTst | tNeg
  | tCmpReg | tCmn | tOrr | tBic | tMvn => exact .next
  | tMul rs rd => exact Answers.tMul rs rd s
  | tAddHi | tCmpHi | tMovHi => exact Answers.thumbHigh _ _ _
  | tBx h1 rs rd => exact Answers.tBx h1 rs rd s
  | tStrhReg => exact Answers.thumbStoreHalf _ _ s
  | tLdrhReg | tLdsh => exact Answers.thumbLoadHalf _ _ _ s
  | tStrhImm off rb rd => rw [tags, ← zext_append_zero]; exact Answers.thumbStoreHalf _ _ s
  | tLdrhImm off rb rd => rw [tags, ← zext_append_zero]; exact Answers.thumbLoadHalf _ _ _ s
  | tLdrPc | tStrReg | tStrbReg | tLdsb | tLdrReg | tLdrbReg | tStrImm | tLdrImm | tStrbImm | tLdrbImm | tStrSp | tLdrSp
  | tAddPc | tAddSp | tAddSpImm | tSubSpImm => exact .next
  | tPush r list => exact Answers.emptyList (stackCount_eq_zero r list) .next
  | tPop r list => exact Answers.emptyList (stackCount_eq_zero r list) (.ite (fun _ => .next) fun _ => .next)
  | tStmia => exact Answers.emptyList decide_eq_true_iff.symm .next
  | tLdmia => exact Answers.emptyList decide_eq_true_iff.symm (.ite (fun _ => .next) fun _ => .next)
  | tBcond => exact .ite (fun _ => .next) fun _ => .next
  | tUndB1 | tUndB2 | tUndB6 | tUndB8 | tUndBE | tUndDE | tUndE8 => exact .next
  | tB | tBlHi | tBlLo => exact .next

/-- Settles O21: `exec_answers`, case by case over the instructions. -/
theorem faultsExactlyWhereUnpredictable : Obligations.FaultsExactlyWhereUnpredictable :=
  fun i s h => (exec_answers i s h).completes_or_stops

end Sys2Proof.Claims
end

section
/-! The state after reset (10 R160 to R165) and the banked registers (10 R103 to R105, R117). -/

namespace Sys2Proof.Claims

open Sys2Proof.Machine

/-! ### Reset -/

/-- 10 R160: every general register is 0 but for three stack pointers. -/
theorem reset_greg (g : GReg) :
    State.reset.greg g =
      if g = .sp .svc then 0x03007FE0 else if g = .sp .irq then 0x03007FA0 else if g = .sp .usr then 0x03007F00 else 0 := by
  have hzero : ({ State.reset with regs := Vector.replicate 30 0 } : State).greg g = 0 := by simp [State.greg]
  have hreset : State.reset = (({ State.reset with regs := Vector.replicate 30 0 }.setGreg (.sp .usr) 0x03007F00).setGreg
    (.sp .irq) 0x03007FA0).setGreg (.sp .svc) 0x03007FE0 := rfl
  rw [hreset, State.greg_setGreg, State.greg_setGreg, State.greg_setGreg, hzero]

theorem reset_spsrOf (e : Exc) : State.reset.spsrOf e = resetSpsr := by simp [State.spsrOf, State.reset]

/-- Settles O1: the register file and the status registers of reset, one by one. -/
theorem resetRegistersAndStatus : Obligations.ResetRegistersAndStatus := by
  refine ⟨fun n => ?_, fun b n => ?_, ?_, ?_, ?_, ?_, ?_, ?_, fun b => ?_, rfl, by decide, rfl, fun e => ?_⟩
  case refine_10 => rw [reset_spsrOf]; decide
  all_goals rw [reset_greg]; simp

/-- 10 R163, R164: every intercepted register reads 0. -/
theorem reset_devRead (r : DevReg) : State.reset.devRead r = 0 := by
  cases r with
  | bgcnt n | bghofs n | bgvofs n => simp [State.devRead, State.reset, Ppu.reset, Bg.reset]
  | _ => rfl

theorem reset_pixel (x y : Nat) : Frame.pixel State.reset.ppu.fb x y = 0 := by
  show (List.replicate lineWidth (0 : Word)).getD x 0 = 0
  simp

/-- 10 R165: a region with storage reads 0, whether the byte is a register's lane or flat. -/
theorem reset_read8_storage {a : Word} {r : Region} {off : Nat} (h : State.reset.place a = storagePlace r off) :
    State.reset.read8 a = 0 := by
  unfold State.read8
  rw [h]
  unfold storagePlace
  cases deviceAt r (off / 2) with
  | none => rfl
  | some d =>
    dsimp only
    rw [reset_devRead]
    cases decide (off % 2 = 1) <;> rfl

theorem reset_read8_bios {a : Word} (h : regionOf a = .bios) :
    State.reset.read8 a = Sparse.get 0 State.reset.params.bios (a.extractLsb' 0 14).toNat := by
  have hoff : offsetOf a = (a.extractLsb' 0 14).toNat := by
    unfold offsetOf
    rw [h, BitVec.extractLsb'_toNat, BitVec.extractLsb'_toNat]
    show _ % 0x4000 = _
    omega
  have hplace : State.reset.place a = .bios (a.extractLsb' 0 14).toNat := by
    unfold State.place placeOf
    rw [h, ← hoff]
  unfold State.read8
  rw [hplace]

/-- Settles O2: the devices' fields as `State.reset` gives them, memory by the place an address leads to. -/
theorem resetDevicesAndMemory : Obligations.ResetDevicesAndMemory := by
  refine ⟨⟨rfl, rfl, rfl, rfl, rfl, rfl, rfl⟩, ⟨rfl, rfl, rfl, rfl⟩, reset_devRead, ⟨rfl, rfl, rfl, rfl⟩, reset_pixel,
    fun a ha => ?_, fun a ha => reset_read8_bios ha⟩
  refine reset_read8_storage (r := regionOf a) (off := offsetOf a) ?_
  unfold State.place placeOf
  simp only [List.mem_cons, List.not_mem_nil, or_false] at ha
  obtain h | h | h | h | h | h := ha <;> rw [h]

/-- Settles O3: each part of the invariant, evaluated. -/
theorem resetStateIsSound : Obligations.ResetStateIsSound := by
  refine ⟨?_, ?_, ?_, ?_, ?_, ?_⟩ <;> decide

/-! ### Banks (10 R103 to R105) -/

theorem bank_mid (m : Mode) (k : Fin 5) : bank m ⟨8 + k.val, by omega⟩ = .gen (.mid (decide (m = .fiq)) k) := by
  cases m <;> (revert k; decide)

theorem bank_shared {n : Reg} (h : n.val < 8) (m m' : Mode) : bank m n = bank m' n := by
  rw [show n = loReg ⟨n.val, h⟩ from rfl, bank_low, bank_low]

theorem bank_eq_iff_mid {n : Reg} (h8 : 8 ≤ n.val) (h13 : n.val < 13) (m m' : Mode) :
    bank m n = bank m' n ↔ (m = .fiq ↔ m' = .fiq) := by
  have hn : n = ⟨8 + (n.val - 8), by omega⟩ := Fin.ext (by simp; omega)
  have hk := fun m => bank_mid m ⟨n.val - 8, by omega⟩
  rw [hn, hk m, hk m']
  simp

theorem Mode_bank_eq_iff (m m' : Mode) :
    m.bank = m'.bank ↔ m = m' ∨ (m = .usr ∧ m' = .sys) ∨ (m = .sys ∧ m' = .usr) := by
  cases m <;> cases m' <;> decide

/-- Settles O4: the bank mapping by its four kinds of register, and reading back what is written. -/
theorem bankedRegistersByMode : Obligations.BankedRegistersByMode := by
  refine ⟨bank_pc, bank_low, bank_mid, ?_, fun m m' n h => bank_shared h m m', fun m m' n h8 h13 => bank_eq_iff_mid h8 h13 m m',
    fun m m' n hn => ?_, fun m m' n n' => bank_injective, fun s m m' n n' v hn hn' => State.regOf_setRegOf s m m' n n' v 0 hn hn',
    State.greg_setCpsr⟩
  · intro e he
    have hb : e.1.bank = e.2 := by
      simp only [List.mem_cons, List.not_mem_nil, or_false] at he
      obtain h | h | h | h | h | h | h := he <;> rw [h] <;> rfl
    rw [bank_sp, bank_lr, hb]
    exact ⟨rfl, rfl⟩
  · rw [← Mode_bank_eq_iff]
    obtain rfl | rfl := hn
    · simp [bank_sp]
    · simp [bank_lr]

end Sys2Proof.Claims
end

section
/-! What an instruction other than SWI may change: for each shared operation, the registers, the status bits and the PC it leaves; then for
all of `exec` (10 R105 to R115; 40; 41; 42; 44; 45). -/

namespace Sys2Proof.Claims

open Sys2Proof.Machine

/-! ### Aligned addresses (10 R108) -/

/-- An address an instruction can stand at: a multiple of 2 in Thumb state, of 4 in ARM state. -/
def Aligned (thumb : Bool) (v : Word) : Prop := v.setWidth (if thumb then 1 else 2) = 0

theorem pcAligned_iff (s : State) : s.pcAligned = true ↔ Aligned s.cpsr.t s.pc := by
  unfold State.pcAligned Aligned
  cases s.cpsr.t <;> simp [BitVec.setWidth_eq_extractLsb']

theorem Aligned.add {thumb : Bool} {a b : Word} (ha : Aligned thumb a) (hb : Aligned thumb b) : Aligned thumb (a + b) := by
  unfold Aligned at *
  rw [BitVec.setWidth_add _ _ (by cases thumb <;> decide), ha, hb]
  exact BitVec.add_zero _

theorem aligned_four : Aligned false 4 := rfl

theorem aligned_two : Aligned true 2 := rfl

theorem aligned_align2 (v : Word) : Aligned true (align2 v) := by
  unfold Aligned align2
  rw [BitVec.setWidth_and]
  exact BitVec.and_zero

theorem aligned_align4 (v : Word) : Aligned false (align4 v) := by
  unfold Aligned align4
  rw [BitVec.setWidth_and]
  exact BitVec.and_zero

theorem aligned_of_bits {thumb : Bool} {v : Word} (h : ∀ i, i < (if thumb then 1 else 2) → v.getLsbD i = false) :
    Aligned thumb v := by
  refine BitVec.eq_of_getLsbD_eq fun i hi => ?_
  rw [BitVec.getLsbD_setWidth, h i hi, Bool.and_false]
  exact BitVec.getLsbD_zero.symm

theorem getLsbD_sext_append_zero {n k i : Nat} (off : BitVec n) (hi : i < k) : (sext (off ++ 0#k)).getLsbD i = false := by
  have hk : i < n + k := by omega
  rw [sext, BitVec.getLsbD_signExtend, BitVec.getLsbD_append]
  simp [hi, hk]

/-- 43 R600. -/
theorem aligned_branchTarget {s : State} (h : Aligned false s.pc) (off : BitVec 24) : Aligned false (branchTarget s off) :=
  (h.add (b := 8) rfl).add (aligned_of_bits fun _ hi => getLsbD_sext_append_zero off hi)

/-- 46 R750, R752. -/
theorem aligned_thumbTarget {n : Nat} {pc : Word} (h : Aligned true pc) (off : BitVec n) :
    Aligned true (pc + 4 + sext (off ++ 0b0#1)) :=
  (h.add (b := 4) rfl).add (aligned_of_bits fun _ hi => getLsbD_sext_append_zero off hi)

/-! ### Before the PC moves -/

theorem StatusKept.refl (b : StatusBits) (s : State) : StatusKept b s s := by cases b <;> trivial

/-- From `s`, no more has changed than registers of `ws`, the flags among the bits of `b`, and the count of free values. -/
structure Within (ws : List GReg) (b : StatusBits) (s u : State) : Prop where
  only : u = { s with regs := u.regs, cpsr := u.cpsr, freeIdx := u.freeIdx }
  regs : ∀ g, g ∉ ws → u.greg g = s.greg g
  status : StatusKept b s u
  flags : StatusKept .nzcv s u

namespace Within

variable {ws : List GReg} {b : StatusBits} {s u : State}

theorem refl (ws : List GReg) (b : StatusBits) (s : State) : Within ws b s s :=
  ⟨rfl, fun _ _ => rfl, .refl b s, rfl⟩

theorem pc (h : Within ws b s u) : u.pc = s.pc := by rw [h.only]

theorem thumb (h : Within ws b s u) : u.cpsr.t = s.cpsr.t := by rw [h.flags]

theorem mode (h : Within ws b s u) : u.cpsr.mode = s.cpsr.mode := by rw [h.flags]

theorem setGreg (h : Within ws b s u) {g : GReg} (hg : g ∈ ws) (v : Word) : Within ws b s (u.setGreg g v) := by
  refine ⟨by rw [h.only]; rfl, fun g' hg' => ?_, h.status, h.flags⟩
  rw [State.greg_setGreg_ne _ _ _ _ (fun e => hg' (by rwa [e])), h.regs g' hg']

theorem setRegOf (h : Within ws b s u) {m : Mode} {n : Reg} (hn : ∀ g, bank m n = .gen g → g ∈ ws) (v : Word) :
    Within ws b s (u.setRegOf m n v) := by
  unfold State.setRegOf
  split
  case h_1 g hg => exact h.setGreg (hn g hg) v
  case h_2 => exact h

theorem setReg (h : Within ws b s u) {n : Reg} (hn : ∀ g, bank s.cpsr.mode n = .gen g → g ∈ ws) (v : Word) :
    Within ws b s (u.setReg n v) := by
  unfold State.setReg
  rw [h.mode]
  exact h.setRegOf hn v

theorem loadRegs {m : Mode} {rs : List Reg} (hrs : ∀ r ∈ rs, ∀ g, bank m r = .gen g → g ∈ ws) (a : Word)
    (h : Within ws b s u) : Within ws b s (u.loadRegs m a rs) := by
  induction rs generalizing u a with
  | nil => exact h
  | cons r rest ih =>
    exact ih (fun r' hr' => hrs r' (List.mem_cons_of_mem r hr')) _ (h.setRegOf (hrs r List.mem_cons_self) _)

theorem drawn (h : Within ws b s u) : Within ws b s u.drawn := ⟨by rw [h.only]; rfl, h.regs, h.status, h.flags⟩

theorem ite {c : Prop} [Decidable c] {x y : State} (hx : c → Within ws b s x) (hy : ¬c → Within ws b s y) :
    Within ws b s (if c then x else y) := by
  split
  · exact hx ‹_›
  · exact hy ‹_›

/-- The flags alone. -/
theorem setCpsr (ws : List GReg) {p : Cpsr} (hb : StatusKept b s (s.setCpsr p)) (hf : StatusKept .nzcv s (s.setCpsr p)) :
    Within ws b s (s.setCpsr p) := ⟨rfl, fun _ _ => rfl, hb, hf⟩

end Within

/-- A register that is listed where a flag is set. -/
theorem mem_ite_nil {n : Reg} {w : Bool} (hw : w = true) : n ∈ if w then [n] else [] := by
  rw [if_pos hw]
  exact List.mem_cons_self

theorem mem_named {s : State} {ns : List Reg} {n : Reg} {g : GReg} (hn : n ∈ ns) (h : bank s.cpsr.mode n = .gen g) :
    g ∈ named s ns := List.mem_filterMap.mpr ⟨n, hn, by rw [h]⟩

theorem mem_namedUser {ns : List Reg} {n : Reg} {g : GReg} (hn : n ∈ ns) (h : bank .usr n = .gen g) :
    g ∈ namedUser ns := List.mem_filterMap.mpr ⟨n, hn, by rw [h]⟩

/-! ### The end of an instruction -/

/-- An instruction that stores nothing has ended: it may have written the registers of `ws` and the status bits of `b`, and it leaves
the PC where an instruction of the state's set can stand. -/
structure Done (thumb : Bool) (ws : List GReg) (b : StatusBits) (s t : State) : Prop where
  only : t = { s with regs := t.regs, pc := t.pc, cpsr := t.cpsr, freeIdx := t.freeIdx }
  regs : ∀ g, g ∉ ws → t.greg g = s.greg g
  status : StatusKept b s t
  aligned : s.cpsr.t = thumb → Aligned thumb s.pc → Aligned t.cpsr.t t.pc

namespace Done

variable {thumb : Bool} {ws : List GReg} {b : StatusBits} {s u : State}

theorem jump {v : Word} (hv : Aligned thumb s.pc → Aligned thumb v) (h : Within ws b s u) :
    Done thumb ws b s (u.setPc v) := by
  refine ⟨by rw [h.only]; rfl, h.regs, ?_, fun ht hp => ?_⟩
  · have hs := h.status
    cases b <;> exact hs
  · simpa [h.thumb, ht] using hv hp

theorem advance4 (h : Within ws b s u) : Done false ws b s (u.advancePc 4) :=
  jump (fun hp => by rw [h.pc]; exact hp.add rfl) h

theorem advance2 (h : Within ws b s u) : Done true ws b s (u.advancePc 2) :=
  jump (fun hp => by rw [h.pc]; exact hp.add rfl) h

theorem writeArm (h : Within ws b s u) {rd : Reg} (hd : ∀ g, bank s.cpsr.mode rd = .gen g → g ∈ ws) (v : Word) :
    Done false ws b s (u.writeArm rd v) := by
  unfold State.writeArm
  rw [h.mode]
  split
  case h_1 g hg => exact advance4 (h.setGreg (hd g hg) v)
  case h_2 => exact jump (fun _ => aligned_align4 v) h

theorem writeThumb (h : Within ws b s u) {rd : Reg} (hd : ∀ g, bank s.cpsr.mode rd = .gen g → g ∈ ws) (v : Word) :
    Done true ws b s (u.writeThumb rd v) := by
  unfold State.writeThumb
  rw [h.mode]
  split
  case h_1 g hg => exact advance2 (h.setGreg (hd g hg) v)
  case h_2 => exact jump (fun _ => aligned_align2 v) h

theorem armIf {c : Cond} {o : Host.Outcome State Fault Refusal} (h : Ends (Done false ws b s) o) :
    Ends (Done false ws b s) (armIf c s o) :=
  Ends.ite (fun _ => h) fun _ => Ends.next (advance4 (.refl ws b s))

/-- 10 R116: the restored T says how the target is aligned. -/
theorem psrRestore {b' : StatusBits} (h : Within ws b' s u) (v : Word) : Ends (Done thumb ws .any s) (u.psrRestore v) := by
  unfold State.psrRestore
  split
  case h_1 => exact Ends.fault
  case h_2 =>
    split
    case h_1 => exact Ends.fault
    case h_2 p _ =>
      refine Ends.next ⟨by rw [h.only]; rfl, h.regs, trivial, fun _ _ => ?_⟩
      show Aligned p.t (if p.t then align2 v else align4 v)
      cases p.t with
      | true => exact aligned_align2 v
      | false => exact aligned_align4 v

/-- 43 R602: the target's bit 0 says which set it is an address of. -/
theorem branchExchange (v : Word) : Ends (Done thumb ws .t s) (branchExchange s v) := by
  refine Ends.ite (fun _ => Ends.next ⟨rfl, fun _ _ => rfl, rfl, fun _ _ => aligned_align2 v⟩) fun h0 =>
    Ends.ite (fun _ => Ends.fault) fun h1 => Ends.next ⟨rfl, fun _ _ => rfl, rfl, fun _ _ => ?_⟩
  refine aligned_of_bits fun i hi => ?_
  have hi' : i = 0 ∨ i = 1 := by simp [State.setCpsr] at hi; omega
  obtain rfl | rfl := hi'
  · simpa using h0
  · simpa using h1

end Done

/-! ### Data processing (40 R408 to R412; 44) -/

/-- The flags a data-processing operation sets: a logical one leaves V (40 R409). -/
def flagBits (op : DpOp) : StatusBits := if isLogical op then .nzc else .nzcv

theorem alu_logical {op : DpOp} (h : isLogical op = true) (a m : Word) (c : Bool) (p : Cpsr) :
    (alu op a m c p).c = c ∧ (alu op a m c p).v = p.v := by
  cases op <;> first | exact ⟨rfl, rfl⟩ | cases h

theorem Within.setFlags_alu (ws : List GReg) (op : DpOp) (a m : Word) (c : Bool) (s : State) :
    Within ws (flagBits op) s (s.setFlags (alu op a m c s.cpsr)) := by
  refine Within.setCpsr ws ?_ rfl
  unfold flagBits
  split
  case isTrue h => simp [StatusKept, State.setCpsr, Cpsr.withResult, Cpsr.withNzcv, alu_logical h]
  case isFalse => rfl

/-- The registers of a data-processing instruction: a test writes none (40 R411). -/
def dpWritten (op : DpOp) (rd : Reg) (s : State) : List GReg := if writesRd op then named s [rd] else []

/-- The status bits of a data-processing instruction. A register-shift form with Rd = 15 has no effect (40 R407, R408, R411, R412). -/
def dpStatus (op : DpOp) (f : DpForm) (sf : Bool) (rd : Reg) : StatusBits :=
  if writesRd op then
    if sf then
      match f with
      | .rsr _ _ _ => flagBits op
      | _ => if rd = 15 then .any else flagBits op
    else .none
  else flagBits op

theorem written_dpInstr (op : DpOp) (f : DpForm) (c : Cond) (sf : Bool) (rn rd : Reg) (s : State) :
    written (dpInstr op f c sf rn rd) s = dpWritten op rd s := by
  cases f <;> cases op <;> rfl

theorem statusBits_dpInstr (op : DpOp) (f : DpForm) (c : Cond) (sf : Bool) (rn rd : Reg) :
    statusBits (dpInstr op f c sf rn rd) = dpStatus op f sf rd := by
  cases f <;> cases op <;> rfl

theorem Done.dpFinish {op : DpOp} {b : StatusBits} {sf : Bool} {rd : Reg}
    (hb : b = if writesRd op then (if sf then (if rd = 15 then .any else flagBits op) else .none) else flagBits op)
    (a m : Word) (c : Bool) (s : State) :
    Ends (Done false (dpWritten op rd s) b s) (dpFinish op sf rd (alu op a m c s.cpsr) s) := by
  unfold Machine.dpFinish dpWritten
  rw [isTest_eq_not_writesRd]
  cases hw : writesRd op with
  | false => rw [hb, hw]; exact Ends.next (advance4 (Within.setFlags_alu _ op a m c s))
  | true =>
    have hd : ∀ g, bank s.cpsr.mode rd = .gen g → g ∈ named s [rd] := fun g => mem_named List.mem_cons_self
    rw [hb, hw]
    cases sf with
    | false => exact Ends.next (writeArm (.refl _ _ s) hd _)
    | true =>
      by_cases h15 : rd = 15
      · simpa [h15] using psrRestore (.refl _ .none s) _
      · simpa [h15] using Ends.next (writeArm (Within.setFlags_alu _ op a m c s) hd _)

theorem Done.dpInstr (op : DpOp) (f : DpForm) (c : Cond) (sf : Bool) (rn rd : Reg) (s : State) :
    Ends (Done false (written (dpInstr op f c sf rn rd) s) (statusBits (dpInstr op f c sf rn rd)) s)
      (exec (dpInstr op f c sf rn rd) s) := by
  rw [written_dpInstr, statusBits_dpInstr, exec_dpInstr]
  refine armIf (Ends.ite (fun _ => Ends.fault) fun h => dpFinish ?_ _ _ _ s)
  cases f with
  | imm | rsi => rfl
  | rsr =>
    unfold dpStatus
    cases hw : writesRd op with
    | false => rfl
    | true =>
      have h15 : rd ≠ 15 := fun e => h (by simp [shiftNamesR15, hw, e])
      simp [h15]

/-- The flags a Thumb operation of format 2 to 4 sets: a logical one has no shifter and leaves C too (44). -/
def thumbBits (op : DpOp) : StatusBits := if isLogical op then .nz else .nzcv

theorem Done.thumbAlu (op : DpOp) (rd : LoReg) (a m : Word) (s : State) :
    Ends (Done true (if writesRd op then [.low rd] else []) (thumbBits op) s) (thumbAlu op rd a m s.cpsr.c s) := by
  have h (ws : List GReg) : Within ws (thumbBits op) s (s.setFlags (alu op a m s.cpsr.c s.cpsr)) := by
    refine Within.setCpsr ws ?_ rfl
    unfold thumbBits
    split
    case isTrue h => simp [StatusKept, State.setCpsr, Cpsr.withResult, Cpsr.withNzcv, alu_logical h]
    case isFalse => rfl
  unfold Machine.thumbAlu
  rw [isTest_eq_not_writesRd]
  cases writesRd op with
  | false => exact Ends.next (advance2 (h _))
  | true => exact Ends.next (advance2 ((h _).setGreg List.mem_cons_self _))

theorem Done.thumbShift (rd : LoReg) (r : Word × Bool) (s : State) :
    Ends (Done true [.low rd] .nzc s) (thumbShift rd r s) :=
  have h : Within [.low rd] .nzc s (s.setFlags (logicOut r.1 r.2 s.cpsr)) := .setCpsr _ rfl rfl
  Ends.next (advance2 (h.setGreg List.mem_cons_self _))

/-! ### PSR transfer (40 R431 to R433) -/

theorem Done.execMrs (c : Cond) (r : Bool) (rd : Reg) (s : State) :
    Ends (Done false (named s [rd]) .none s) (execMrs c r rd s) := by
  refine armIf (Ends.ite (fun _ => Ends.fault) fun _ => ?_)
  split
  case h_1 => exact Ends.fault
  case h_2 => exact Ends.next (advance4 (Within.setReg (.refl _ _ s) (fun _ => mem_named List.mem_cons_self) _))

/-- MSR of the CPSR: it stops where it would change T (40 R432). -/
theorem msrCpsr_ends (mask : BitVec 4) (v : Word) (s : State) :
    Ends (fun t => ∃ p : Cpsr, p.t = s.cpsr.t ∧ t = (s.setCpsr p).advancePc 4) (msrCpsr mask v s) := by
  have ht : (if mask.getLsbD 3 then s.cpsr.withNzcv (v.getLsbD 31) (v.getLsbD 30) (v.getLsbD 29) (v.getLsbD 28)
      else s.cpsr).t = s.cpsr.t := by split <;> rfl
  refine Ends.ite (fun _ => Ends.ite (fun _ => Ends.fault) fun _ => ?_) fun _ => Ends.next ⟨_, ht, rfl⟩
  cases Mode.ofBits? (v.extractLsb' 0 5) with
  | none => exact Ends.fault
  | some m => exact Ends.next ⟨_, by exact ht, rfl⟩

theorem Done.msrCpsr (mask : BitVec 4) (v : Word) (s : State) : Ends (Done false [] .any s) (msrCpsr mask v s) := by
  intro t ht
  obtain ⟨p, hp, rfl⟩ := msrCpsr_ends mask v s t ht
  refine ⟨rfl, fun _ _ => rfl, trivial, fun hs ha => ?_⟩
  show Aligned p.t (s.pc + 4)
  rw [hp, hs]
  exact ha.add rfl

/-- MSR of an SPSR: the current one (40 R433). -/
theorem msrSpsr_ends (mask : BitVec 4) (v : Word) (s : State) :
    Ends (fun t => ∃ e p, s.cpsr.mode.exc? = some e ∧ t = (s.setSpsr e p).advancePc 4) (msrSpsr mask v s) := by
  unfold Machine.msrSpsr
  split
  case h_1 => exact Ends.fault
  case h_2 e he => exact Ends.next ⟨e, _, he, rfl⟩

/-! ### Multiplies (41) -/

theorem Done.mulShort (sf : Bool) (rd rs rm : Reg) (r15 : Bool) (v : Word) (s : State) :
    Ends (Done false (named s [rd]) (if sf then .nzc else .none) s) (mulShort sf rd rs rm r15 v s) := by
  refine Ends.ite (fun _ => Ends.fault) fun _ => Ends.ite (fun _ => Ends.fault) fun _ => Ends.next (advance4 ?_)
  refine Within.setReg ?_ (fun _ => mem_named List.mem_cons_self) v
  cases sf with
  | false => exact .refl _ _ s
  | true => exact Within.drawn (.setCpsr _ rfl rfl)

theorem Done.mulLong (sf : Bool) (hi lo rs rm : Reg) (p : BitVec 64) (s : State) :
    Ends (Done false (named s [hi, lo]) (if sf then .nzcv else .none) s) (mulLong sf hi lo rs rm p s) := by
  refine Ends.ite (fun _ => Ends.fault) fun _ => Ends.ite (fun _ => Ends.fault) fun _ => Ends.next (advance4 ?_)
  refine Within.setReg (Within.setReg ?_ (fun _ => mem_named (by simp)) _) (fun _ => mem_named (by simp)) _
  cases sf with
  | false => exact .refl _ _ s
  | true => exact Within.drawn (.setCpsr _ rfl rfl)

theorem Done.tMul (rs rd : LoReg) (s : State) : Ends (Done true [.low rd] .nzc s) (execTMul rs rd s) :=
  have h : Within [.low rd] .nzc s
      (s.setFlags { value := s.lo rs * s.lo rd, c := s.any1 .mulCarry, v := s.cpsr.v }) := .setCpsr _ rfl rfl
  Ends.ite (fun _ => Ends.fault) fun _ => Ends.next (advance2 (h.drawn.setGreg List.mem_cons_self _))

/-! ### Loads (42; 45) -/

theorem Within.writeBack {ws : List GReg} {b : StatusBits} {s u : State} (h : Within ws b s u) {wb : Bool} {rn : Reg}
    (hn : wb = true → ∀ g, bank s.cpsr.mode rn = .gen g → g ∈ ws) (v : Word) : Within ws b s (writeBack u wb rn v) :=
  .ite (fun hw => h.setReg (hn hw) v) fun _ => h

theorem Done.loadSingle (byte p u w : Bool) {rn rd : Reg} {ns : List Reg} (hd : rd ∈ ns)
    (hn : writesBack p w = true → rn ∈ ns) (off : Offset) (s : State) :
    Ends (Done false (named s ns) .none s) (loadSingle byte p u w rn rd off s) := by
  unfold Machine.loadSingle
  split
  case h_1 => exact Ends.fault
  case h_2 =>
    exact Ends.next (writeArm (Within.writeBack (.refl _ _ s) (fun hw _ => mem_named (hn hw)) _) (fun _ => mem_named hd) _)

theorem Done.loadHalf (k : HalfLoad) (p u w : Bool) {rn rd : Reg} {ns : List Reg} (hd : rd ∈ ns)
    (hn : writesBack p w = true → rn ∈ ns) (off : HalfOffset) (s : State) :
    Ends (Done false (named s ns) .none s) (loadHalf k p u w rn rd off s) := by
  unfold Machine.loadHalf
  dsimp only
  split
  case h_1 => exact Ends.fault
  case h_2 =>
    exact Ends.next (writeArm (Within.writeBack (.refl _ _ s) (fun hw _ => mem_named (hn hw)) _) (fun _ => mem_named hd) _)

theorem Done.thumbLoaded (rd : LoReg) (v : Word) (s : State) : Ends (Done true [.low rd] .none s) (thumbLoaded rd v s) :=
  Ends.next (advance2 (Within.setGreg (.refl _ _ s) List.mem_cons_self v))

theorem Done.thumbLoadHalf (signed : Bool) (rd : LoReg) (a : Word) (s : State) :
    Ends (Done true [.low rd] .none s) (thumbLoadHalf signed rd a s) :=
  Ends.ite (fun _ => Ends.fault) fun _ => thumbLoaded rd _ s

/-- The registers LDM may write: its base, and those of its list in the bank it loads (42 R531, R540). -/
def ldmWritten (sb w : Bool) (rn : Reg) (list : BitVec 16) (s : State) : List GReg :=
  named s (if w then [rn] else []) ++
    if sb && !inList list 15 then namedUser (inOrder list) else named s (inOrder list)

theorem Within.ldmLoaded (p u sb w : Bool) (rn : Reg) (list : BitVec 16) (s : State) :
    Within (ldmWritten sb w rn list s) .none s (ldmLoaded p u sb w rn list s) := by
  have hbase : Within (ldmWritten sb w rn list s) .none s
      (blockWriteBack s w rn (blockWb u (s.regArm rn) (regList list).length)) :=
    .ite (fun hw => Within.setReg (.refl _ _ s)
      (fun _ hg => List.mem_append_left _ (mem_named (by simp [hw]) hg)) _) fun _ => .refl _ _ s
  refine Within.loadRegs (fun r hr g hg => List.mem_append_right _ ?_) _ hbase
  unfold blockMode at hg
  cases h : sb && !inList list 15 with
  | true => rw [h] at hg; exact mem_namedUser hr hg
  | false => rw [h] at hg; exact mem_named hr hg

theorem Done.ldm (p u sb w : Bool) (rn : Reg) (list : BitVec 16) (s : State) :
    Ends (Done false (ldmWritten sb w rn list s) (if sb && inList list 15 then .any else .none) s)
      (ldm p u sb w rn list s) := by
  have h := Within.ldmLoaded p u sb w rn list s
  unfold Machine.ldm
  cases ldmFault sb w rn list s.cpsr.mode with
  | some f => exact Ends.fault
  | none =>
    cases inList list 15 with
    | false => simpa using Ends.next (advance4 h)
    | true =>
      cases sb with
      | false => exact Ends.next (jump (fun _ => aligned_align4 _) h)
      | true => exact psrRestore h _

theorem Done.tPop (r : Bool) (list : BitVec 8) (s : State) :
    Ends (Done true (named s [13] ++ (inOrder list).map .low) .none s) (execTPop r list s) := by
  have h : Within (named s [13] ++ (inOrder list).map .low) .none s (popLoaded r list s) := by
    refine Within.setReg (Within.loadRegs (fun n hn g hg => ?_) _ (.refl _ _ s))
      (fun _ hg => List.mem_append_left _ (mem_named List.mem_cons_self hg)) _
    obtain ⟨k, hk, rfl⟩ := List.mem_map.mp hn
    rw [bank_low] at hg
    cases hg
    exact List.mem_append_right _ (List.mem_map_of_mem hk)
  exact Ends.ite (fun _ => Ends.fault) fun _ => Ends.ite (fun _ => Ends.next (jump (fun _ => aligned_align2 _) h))
    fun _ => Ends.next (advance2 h)

theorem Done.tLdmia (rb : LoReg) (list : BitVec 8) (s : State) :
    Ends (Done true (.low rb :: (inOrder list).map .low) .none s) (execTLdmia rb list s) := by
  have h : Within (.low rb :: (inOrder list).map .low) .none s (s.loadRegs s.cpsr.mode (s.lo rb) (loRegNumbers list)) := by
    refine Within.loadRegs (fun n hn g hg => ?_) _ (.refl _ _ s)
    obtain ⟨k, hk, rfl⟩ := List.mem_map.mp hn
    rw [bank_low] at hg
    cases hg
    exact List.mem_cons_of_mem _ (List.mem_map_of_mem hk)
  exact Ends.ite (fun _ => Ends.fault) fun _ => Ends.ite (fun _ => Ends.next (advance2 h))
    fun _ => Ends.next (advance2 (h.setGreg List.mem_cons_self _))

/-! ### Stores (42; 45) -/

/-- An instruction that stores has ended: its stores, which reach memory, devices and the cartridge alone, came first. -/
def Stored (thumb : Bool) (ws : List GReg) (s t : State) : Prop := ∃ u, OnlyUnits s u ∧ Done thumb ws .none u t

namespace Stored

variable {ws : List GReg} {s : State}

theorem armIf {c : Cond} {o : Host.Outcome State Fault Refusal} (h : Ends (Stored false ws s) o) :
    Ends (Stored false ws s) (armIf c s o) :=
  Ends.ite (fun _ => h) fun _ => Ends.next ⟨s, .refl s, Done.advance4 (.refl ws .none s)⟩

theorem mem_named {u : State} (hu : OnlyUnits s u) {ns : List Reg} {n : Reg} {g : GReg} (hn : n ∈ ns)
    (h : bank u.cpsr.mode n = .gen g) : g ∈ named s ns := Claims.mem_named hn (hu.cpsr ▸ h)

theorem storeDrawn {u : State} (wb : Bool) (rn rd : Reg) : Within ws .none u (storeDrawn u wb rn rd) :=
  .ite (fun _ => .drawn (.refl _ _ u)) fun _ => .refl _ _ u

theorem storeSingle (byte p u w : Bool) {rn : Reg} {ns : List Reg} (hn : writesBack p w = true → rn ∈ ns) (rd : Reg)
    (off : Offset) (s : State) : Ends (Stored false (named s ns) s) (storeSingle byte p u w rn rd off s) := by
  unfold Machine.storeSingle
  split
  case h_1 => exact Ends.fault
  case h_2 =>
    have hu := State.memWrite_only s (accessAddr s p u rn (offsetValue s off)) (if byte then .b1 else .b4)
      (storeValue s (writesBack p w) rn rd)
    exact Ends.next ⟨_, hu, Done.advance4 ((storeDrawn _ _ _).writeBack (fun hw _ => mem_named hu (hn hw)) _)⟩

theorem storeHalf (p u w : Bool) {rn : Reg} {ns : List Reg} (hn : writesBack p w = true → rn ∈ ns) (rd : Reg)
    (off : HalfOffset) (s : State) : Ends (Stored false (named s ns) s) (storeHalf p u w rn rd off s) := by
  unfold Machine.storeHalf
  dsimp only
  split
  case h_1 => exact Ends.fault
  case h_2 =>
    have hu := State.memWrite_only s (accessAddr s p u rn (halfOffsetValue s off)) .b2 (storeValue s (writesBack p w) rn rd)
    exact Ends.next ⟨_, hu, Done.advance4 ((storeDrawn _ _ _).writeBack (fun hw _ => mem_named hu (hn hw)) _)⟩

theorem swap (byte : Bool) (rn rd rm : Reg) (s : State) : Ends (Stored false (named s [rd]) s) (swap byte rn rd rm s) := by
  unfold Machine.swap
  split
  case h_1 => exact Ends.fault
  case h_2 =>
    have hu := State.memWrite_only s (s.regArm rn) (if byte then .b1 else .b4) (s.regArm rm)
    exact Ends.next ⟨_, hu, Done.advance4 (Within.setReg (.refl _ _ _) (fun _ => mem_named hu List.mem_cons_self) _)⟩

theorem stm (p u sb w : Bool) (rn : Reg) (list : BitVec 16) (s : State) :
    Ends (Stored false (named s (if w then [rn] else [])) s) (stm p u sb w rn list s) := by
  unfold Machine.stm
  cases stmFault sb w rn list s.cpsr.mode with
  | some f => exact Ends.fault
  | none =>
    have hu : OnlyUnits s (stmStored p u sb w rn list s) := State.storeWords_only _ s _
    refine Ends.next ⟨_, hu, Done.advance4 ?_⟩
    have hdrawn (ws : List GReg) : Within ws .none (stmStored p u sb w rn list s)
        (if stmDraws w rn list then (stmStored p u sb w rn list s).drawn else stmStored p u sb w rn list s) :=
      .ite (fun _ => .drawn (.refl _ _ _)) fun _ => .refl _ _ _
    exact .ite (fun hw => (hdrawn _).setReg (fun _ => mem_named hu (by simp [hw])) _) fun _ => hdrawn _

theorem thumbStored (a : Word) (w : Width) (v : Word) (s : State) : Ends (Stored true ws s) (thumbStored a w v s) :=
  Ends.next ⟨_, State.memWrite_only s a w v, Done.advance2 (.refl _ _ _)⟩

theorem thumbStoreHalf (rd : LoReg) (a : Word) (s : State) : Ends (Stored true ws s) (thumbStoreHalf rd a s) :=
  Ends.ite (fun _ => Ends.fault) fun _ => thumbStored a .b2 _ s

theorem tPush (r : Bool) (list : BitVec 8) (s : State) : Ends (Stored true (named s [13]) s) (execTPush r list s) := by
  have hu := State.storeWords_only (pushWords r list s) s (pushAddr r list s)
  exact Ends.ite (fun _ => Ends.fault) fun _ => Ends.next ⟨_, hu, Done.advance2
    (Within.setReg (.refl _ _ _) (fun _ => mem_named hu List.mem_cons_self) _)⟩

theorem tStmia (rb : LoReg) (list : BitVec 8) (s : State) : Ends (Stored true [.low rb] s) (execTStmia rb list s) :=
  Ends.ite (fun _ => Ends.fault) fun _ => Ends.next ⟨stmiaStored rb list s, State.storeWords_only _ s _, Done.advance2
    (Within.setGreg (.ite (fun _ => .drawn (.refl _ _ _)) fun _ => .refl _ _ _) List.mem_cons_self _)⟩

end Stored

/-! ### All of exec -/

/-- What an instruction other than SWI does: it may write the registers, the status bits and the SPSR that the tables of the claims give
it, and it leaves the PC where the next instruction can stand. -/
structure Effect (i : Instr) (s t : State) : Prop where
  regs : ∀ g, g ∉ written i s → t.greg g = s.greg g
  status : StatusKept (statusBits i) s t
  spsr : ∀ e, (writesSpsr i && s.cpsr.mode.exc? = some e) = false → t.spsrOf e = s.spsrOf e
  units : isStore i = false → SameUnits t s
  wait : SameWait s t
  log : isAnomaly i = false → t.log = s.log
  aligned : s.cpsr.t = (condOf i).isNone → s.pcAligned = true → t.pcAligned = true

theorem Done.effect {i : Instr} {s : State} {o : Host.Outcome State Fault Refusal}
    (h : Ends (Done (condOf i).isNone (written i s) (statusBits i) s) o) : Ends (Effect i s) o := by
  intro t ht
  have d := h t ht
  refine ⟨d.regs, d.status, fun e _ => ?_, fun _ => ?_, ?_, fun _ => ?_, fun ha hp => ?_⟩
  · exact State.spsrOf_congr (by rw [d.only]) e
  · rw [d.only]; exact ⟨rfl, rfl, rfl, rfl⟩
  · rw [d.only]; exact ⟨rfl, rfl, rfl, rfl⟩
  · rw [d.only]
  · rw [pcAligned_iff] at hp ⊢
    exact d.aligned ha (ha ▸ hp)

theorem Stored.effect {i : Instr} {s : State} {o : Host.Outcome State Fault Refusal}
    (h : Ends (Stored (condOf i).isNone (written i s) s) o) (hi : isStore i = true) (hb : statusBits i = .none) :
    Ends (Effect i s) o := by
  intro t ht
  obtain ⟨u, hu, d⟩ := h t ht
  have hc : t.cpsr = s.cpsr := d.status.trans hu.cpsr
  refine ⟨fun g hg => ?_, ?_, fun e _ => ?_, fun hn => ?_, ?_, fun _ => ?_, fun ha hp => ?_⟩
  · exact (d.regs g hg).trans (State.greg_congr hu.regs g)
  · rw [hb]; exact hc
  · exact (State.spsrOf_congr (by rw [d.only]) e).trans (State.spsrOf_congr hu.spsr e)
  · rw [hi] at hn; cases hn
  · rw [d.only]; exact ⟨hu.halted, hu.stopped, hu.waitKind, hu.waitMask⟩
  · rw [d.only]; exact hu.log
  · rw [pcAligned_iff] at hp ⊢
    exact d.aligned (hu.cpsr ▸ ha) (by rw [hu.pc]; exact ha ▸ hp)

/-- An ARM instruction whose condition fails has no effect (30 R305). -/
theorem Effect.armIf {i : Instr} {s : State} (hi : (condOf i).isNone = false) {c : Cond}
    {o : Host.Outcome State Fault Refusal} (h : Ends (Effect i s) o) : Ends (Effect i s) (armIf c s o) := by
  refine Ends.ite (fun _ => h) fun _ => Done.effect (Ends.next ?_)
  rw [hi]
  exact .advance4 (.refl _ _ s)

/-- 43 R620. -/
theorem Effect.anomaly {i : Instr} (hi : isAnomaly i = true) (hb : statusBits i = .none) {len : Word} (s : State)
    (hl : Aligned (condOf i).isNone len) (w : Word) : Effect i s (s.anomaly len w) := by
  refine ⟨fun _ _ => rfl, by rw [hb]; rfl, fun _ _ => rfl, fun _ => ⟨rfl, rfl, rfl, rfl⟩, ⟨rfl, rfl, rfl, rfl⟩,
    fun h => ?_, fun ha hp => ?_⟩
  · rw [hi] at h; cases h
  · rw [pcAligned_iff] at hp ⊢
    exact hp.add (ha ▸ hl)

theorem Effect.armAnomaly {i : Instr} (hi : isAnomaly i = true) (hb : statusBits i = .none)
    (ha : (condOf i).isNone = false) (w : Word) (s : State) : Ends (Effect i s) (armAnomaly w s) :=
  armIf ha (Ends.next (anomaly hi hb s (by rw [ha]; rfl) w))

theorem Effect.thumbAnomaly {i : Instr} (hi : isAnomaly i = true) (hb : statusBits i = .none)
    (ha : (condOf i).isNone = true) (h : Half) (s : State) : Ends (Effect i s) (thumbAnomaly h s) :=
  Ends.next (anomaly hi hb s (by rw [ha]; rfl) _)

/-- 40 R432, R433: MSR of the CPSR or of the current SPSR. -/
theorem Effect.msr {i : Instr} {r : Bool} (hr : writesSpsr i = r) (hw : ∀ s, written i s = [])
    (hb : statusBits i = if r then .none else .any) (ha : (condOf i).isNone = false) (mask : BitVec 4) (v : Word) (s : State) :
    Ends (Effect i s) (msr r mask v s) := by
  cases r with
  | false =>
    refine Done.effect ?_
    rw [ha, hw, hb]
    exact Done.msrCpsr mask v s
  | true =>
    intro t ht
    obtain ⟨e, p, he, rfl⟩ := msrSpsr_ends mask v s t ht
    refine ⟨fun _ _ => rfl, by rw [hb]; rfl, fun e' h' => ?_, fun _ => ⟨rfl, rfl, rfl, rfl⟩, ⟨rfl, rfl, rfl, rfl⟩,
      fun _ => rfl, fun hs hp => ?_⟩
    · have hne : e' ≠ e := by rintro rfl; simp [hr, he] at h'
      rw [State.spsrOf_advancePc, State.spsrOf_setSpsr, if_neg hne]
    · rw [ha] at hs
      rw [pcAligned_iff, hs] at hp
      rw [pcAligned_iff]
      show Aligned s.cpsr.t (s.pc + 4)
      rw [hs]
      exact hp.add rfl

/-- The operation, operand form and fields of a data-processing instruction. -/
def asDp (i : Instr) : Option (DpOp × DpForm × Cond × Bool × Reg × Reg) :=
  match i with
  | .andImm c sf rn rd r i => some (.and, .imm r i, c, sf, rn, rd)
  | .andRsi c sf rn rd n h m => some (.and, .rsi n h m, c, sf, rn, rd)
  | .andRsr c sf rn rd x h m => some (.and, .rsr x h m, c, sf, rn, rd)
  | .eorImm c sf rn rd r i => some (.eor, .imm r i, c, sf, rn, rd)
  | .eorRsi c sf rn rd n h m => some (.eor, .rsi n h m, c, sf, rn, rd)
  | .eorRsr c sf rn rd x h m => some (.eor, .rsr x h m, c, sf, rn, rd)
  | .subImm c sf rn rd r i => some (.sub, .imm r i, c, sf, rn, rd)
  | .subRsi c sf rn rd n h m => some (.sub, .rsi n h m, c, sf, rn, rd)
  | .subRsr c sf rn rd x h m => some (.sub, .rsr x h m, c, sf, rn, rd)
  | .rsbImm c sf rn rd r i => some (.rsb, .imm r i, c, sf, rn, rd)
  | .rsbRsi c sf rn rd n h m => some (.rsb, .rsi n h m, c, sf, rn, rd)
  | .rsbRsr c sf rn rd x h m => some (.rsb, .rsr x h m, c, sf, rn, rd)
  | .addImm c sf rn rd r i => some (.add, .imm r i, c, sf, rn, rd)
  | .addRsi c sf rn rd n h m => some (.add, .rsi n h m, c, sf, rn, rd)
  | .addRsr c sf rn rd x h m => some (.add, .rsr x h m, c, sf, rn, rd)
  | .adcImm c sf rn rd r i => some (.adc, .imm r i, c, sf, rn, rd)
  | .adcRsi c sf rn rd n h m => some (.adc, .rsi n h m, c, sf, rn, rd)
  | .adcRsr c sf rn rd x h m => some (.adc, .rsr x h m, c, sf, rn, rd)
  | .sbcImm c sf rn rd r i => some (.sbc, .imm r i, c, sf, rn, rd)
  | .sbcRsi c sf rn rd n h m => some (.sbc, .rsi n h m, c, sf, rn, rd)
  | .sbcRsr c sf rn rd x h m => some (.sbc, .rsr x h m, c, sf, rn, rd)
  | .rscImm c sf rn rd r i => some (.rsc, .imm r i, c, sf, rn, rd)
  | .rscRsi c sf rn rd n h m => some (.rsc, .rsi n h m, c, sf, rn, rd)
  | .rscRsr c sf rn rd x h m => some (.rsc, .rsr x h m, c, sf, rn, rd)
  | .tstImm c rn rd r i => some (.tst, .imm r i, c, true, rn, rd)
  | .tstRsi c rn rd n h m => some (.tst, .rsi n h m, c, true, rn, rd)
  | .tstRsr c rn rd x h m => some (.tst, .rsr x h m, c, true, rn, rd)
  | .teqImm c rn rd r i => some (.teq, .imm r i, c, true, rn, rd)
  | .teqRsi c rn rd n h m => some (.teq, .rsi n h m, c, true, rn, rd)
  | .teqRsr c rn rd x h m => some (.teq, .rsr x h m, c, true, rn, rd)
  | .cmpImm c rn rd r i => some (.cmp, .imm r i, c, true, rn, rd)
  | .cmpRsi c rn rd n h m => some (.cmp, .rsi n h m, c, true, rn, rd)
  | .cmpRsr c rn rd x h m => some (.cmp, .rsr x h m, c, true, rn, rd)
  | .cmnImm c rn rd r i => some (.cmn, .imm r i, c, true, rn, rd)
  | .cmnRsi c rn rd n h m => some (.cmn, .rsi n h m, c, true, rn, rd)
  | .cmnRsr c rn rd x h m => some (.cmn, .rsr x h m, c, true, rn, rd)
  | .orrImm c sf rn rd r i => some (.orr, .imm r i, c, sf, rn, rd)
  | .orrRsi c sf rn rd n h m => some (.orr, .rsi n h m, c, sf, rn, rd)
  | .orrRsr c sf rn rd x h m => some (.orr, .rsr x h m, c, sf, rn, rd)
  | .movImm c sf rn rd r i => some (.mov, .imm r i, c, sf, rn, rd)
  | .movRsi c sf rn rd n h m => some (.mov, .rsi n h m, c, sf, rn, rd)
  | .movRsr c sf rn rd x h m => some (.mov, .rsr x h m, c, sf, rn, rd)
  | .bicImm c sf rn rd r i => some (.bic, .imm r i, c, sf, rn, rd)
  | .bicRsi c sf rn rd n h m => some (.bic, .rsi n h m, c, sf, rn, rd)
  | .bicRsr c sf rn rd x h m => some (.bic, .rsr x h m, c, sf, rn, rd)
  | .mvnImm c sf rn rd r i => some (.mvn, .imm r i, c, sf, rn, rd)
  | .mvnRsi c sf rn rd n h m => some (.mvn, .rsi n h m, c, sf, rn, rd)
  | .mvnRsr c sf rn rd x h m => some (.mvn, .rsr x h m, c, sf, rn, rd)
  | _ => none

theorem eq_dpInstr_of_asDp {i : Instr} {op : DpOp} {f : DpForm} {c : Cond} {sf : Bool} {rn rd : Reg}
    (h : asDp i = some (op, f, c, sf, rn, rd)) : i = dpInstr op f c sf rn rd := by
  unfold asDp at h
  split at h <;> cases h <;> rfl

/-- Every instruction other than SWI has the effect that the tables of the claims say. -/
theorem exec_effect (i : Instr) (s : State) (hcall : isCall i = false) : Ends (Effect i s) (exec i s) := by
  cases hdp : asDp i with
  | some q =>
    obtain ⟨op, f, c, sf, rn, rd⟩ := q
    have ha : (condOf (dpInstr op f c sf rn rd)).isNone = false := by cases f <;> cases op <;> rfl
    rw [eq_dpInstr_of_asDp hdp]
    refine Done.effect ?_
    rw [ha]
    exact Done.dpInstr op f c sf rn rd s
  | none =>
    cases i with
    | mul | mla => exact Done.effect (.armIf (.mulShort _ _ _ _ _ _ s))
    | umull | umlal | smull | smlal => exact Done.effect (.armIf (.mulLong _ _ _ _ _ _ s))
    | swp | swpb => exact Stored.effect (.armIf (.swap _ _ _ _ s)) rfl rfl
    | undMulSwap | undHalfword | undPsr | undMsrImm | und011 | undCopTransfer | undCopOp =>
      exact Effect.armAnomaly rfl rfl rfl _ s
    | ldrh | ldrsb | ldrsh =>
      exact Done.effect (.armIf (.loadHalf _ _ _ _ List.mem_cons_self (List.mem_cons_of_mem _ ∘ mem_ite_nil) _ s))
    | strh => exact Stored.effect (.armIf (.storeHalf _ _ _ mem_ite_nil _ _ s)) rfl rfl
    | mrs => exact Done.effect (.execMrs _ _ _ s)
    | msrReg =>
      exact Effect.armIf rfl (Ends.ite (fun _ => Ends.fault) fun _ => Effect.msr rfl (fun _ => rfl) rfl rfl _ _ s)
    | msrImm => exact Effect.armIf rfl (Effect.msr rfl (fun _ => rfl) rfl rfl _ _ s)
    | bx => exact Done.effect (.armIf (.branchExchange _))
    | ldrPre | ldrbPre =>
      exact Done.effect (.armIf (.loadSingle _ true _ _ List.mem_cons_self (List.mem_cons_of_mem _ ∘ mem_ite_nil) _ s))
    | ldrPost | ldrbPost =>
      exact Done.effect (.armIf (.loadSingle _ false _ false List.mem_cons_self (fun _ => by simp) _ s))
    | ldrt | ldrbt => exact Done.effect (.armIf (.loadSingle _ false _ true List.mem_cons_self (fun _ => by simp) _ s))
    | strPre | strbPre =>
      exact Stored.effect (.armIf (.storeSingle _ true _ _ mem_ite_nil _ _ s)) rfl rfl
    | strPost | strbPost =>
      exact Stored.effect (.armIf (.storeSingle _ false _ false (fun _ => List.mem_cons_self) _ _ s)) rfl rfl
    | strt | strbt =>
      exact Stored.effect (.armIf (.storeSingle _ false _ true (fun _ => List.mem_cons_self) _ _ s)) rfl rfl
    | ldm => exact Done.effect (.armIf (.ldm _ _ _ _ _ _ s))
    | stm => exact Stored.effect (.armIf (.stm _ _ _ _ _ _ s)) rfl rfl
    | b =>
      exact Done.effect (.armIf (Ends.next (.jump (fun h => aligned_branchTarget h _) (.refl _ _ s))))
    | bl =>
      exact Done.effect (.armIf (Ends.next (.jump (fun h => aligned_branchTarget h _)
        (.setReg (.refl _ _ s) (fun _ => mem_named List.mem_cons_self) _))))
    | swi | tSwi => cases hcall
    | tLslImm | tLsrImm | tAsrImm | tLslReg | tLsrReg | tAsrReg | tRor => exact Done.effect (.thumbShift _ _ s)
    | tAddReg | tAddImm3 | tAddImm8 => exact Done.effect (.thumbAlu .add _ _ _ s)
    | tSubReg | tSubImm3 | tSubImm8 => exact Done.effect (.thumbAlu .sub _ _ _ s)
    | tMovImm => exact Done.effect (.thumbAlu .mov _ _ _ s)
    | tCmpImm rd | tCmpReg _ rd => exact Done.effect (.thumbAlu .cmp rd _ _ s)
    | tAnd => exact Done.effect (.thumbAlu .and _ _ _ s)
    | tEor => exact Done.effect (.thumbAlu .eor _ _ _ s)
    | tAdc => exact Done.effect (.thumbAlu .adc _ _ _ s)
    | tSbc => exact Done.effect (.thumbAlu .sbc _ _ _ s)
    | tTst _ rd => exact Done.effect (.thumbAlu .tst rd _ _ s)
    | tNeg => exact Done.effect (.thumbAlu .rsb _ _ _ s)
    | tCmn _ rd => exact Done.effect (.thumbAlu .cmn rd _ _ s)
    | tOrr => exact Done.effect (.thumbAlu .orr _ _ _ s)
    | tBic => exact Done.effect (.thumbAlu .bic _ _ _ s)
    | tMvn => exact Done.effect (.thumbAlu .mvn _ _ _ s)
    | tMul => exact Done.effect (.tMul _ _ s)
    | tAddHi | tMovHi =>
      exact Done.effect (Ends.ite (fun _ => Ends.fault) fun _ =>
        Ends.next (.writeThumb (.refl _ _ s) (fun _ => mem_named List.mem_cons_self) _))
    | tCmpHi =>
      exact Done.effect (Ends.ite (fun _ => Ends.fault) fun _ => Ends.next (.advance2 (.setFlags_alu _ .cmp _ _ _ s)))
    | tBx => exact Done.effect (Ends.ite (fun _ => Ends.fault) fun _ => .branchExchange _)
    | tLdrPc | tLdsb | tLdrReg | tLdrbReg | tLdrImm | tLdrbImm | tLdrSp => exact Done.effect (.thumbLoaded _ _ s)
    | tLdrhReg | tLdsh | tLdrhImm => exact Done.effect (.thumbLoadHalf _ _ _ s)
    | tStrReg | tStrbReg | tStrImm | tStrbImm | tStrSp => exact Stored.effect (.thumbStored _ _ _ s) rfl rfl
    | tStrhReg | tStrhImm => exact Stored.effect (.thumbStoreHalf _ _ s) rfl rfl
    | tAddPc | tAddSp => exact Done.effect (Ends.next (.advance2 (.setGreg (.refl _ _ s) List.mem_cons_self _)))
    | tAddSpImm | tSubSpImm | tBlHi =>
      exact Done.effect (Ends.next (.advance2 (.setReg (.refl _ _ s) (fun _ => mem_named List.mem_cons_self) _)))
    | tUndB1 | tUndB2 | tUndB6 | tUndB8 | tUndBE | tUndDE | tUndE8 => 
      exact Effect.thumbAnomaly rfl rfl rfl _ s
    | tPush => exact Stored.effect (.tPush _ _ s) rfl rfl
    | tPop => exact Done.effect (.tPop _ _ s)
    | tStmia => exact Stored.effect (.tStmia _ _ s) rfl rfl
    | tLdmia => exact Done.effect (.tLdmia _ _ s)
    | tBcond =>
      exact Done.effect (Ends.ite (fun _ => Ends.next (.jump (fun h => aligned_thumbTarget h _) (.refl _ _ s)))
        fun _ => Ends.next (.advance2 (.refl _ _ s)))
    | tB => exact Done.effect (Ends.next (.jump (fun h => aligned_thumbTarget h _) (.refl _ _ s)))
    | tBlLo =>
      exact Done.effect (Ends.next (.jump (fun _ => aligned_align2 _)
        (.setReg (.refl _ _ s) (fun _ => mem_named List.mem_cons_self) _)))
    | _ => cases hdp

end Sys2Proof.Claims
end

section
/-! What a system call leaves alone: the copies, fills and clears of the BiosHLE reach memory, devices and the cartridge alone, and no
routine but SoftReset touches the status registers or the PC (47; 60 R925). -/

namespace Sys2Proof.Machine

namespace OnlyUnits

variable {s t : State}

theorem memWrite (h : OnlyUnits s t) (a : Word) (w : Width) (v : Word) : OnlyUnits s (t.memWrite a w v) :=
  h.trans (State.memWrite_only t a w v)

theorem zeroBytes (k : Nat) (a : Word) (h : OnlyUnits s t) : OnlyUnits s (zeroBytes k a t) := by
  induction k generalizing a t with
  | zero => exact h
  | succ k ih => exact ih _ (h.memWrite _ _ _)

theorem fillUnits (n : Nat) (w : Width) (dst v : Word) (h : OnlyUnits s t) : OnlyUnits s (fillUnits n w dst v t) := by
  induction n generalizing dst t with
  | zero => exact h
  | succ n ih => exact ih _ (h.memWrite _ _ _)

theorem copyUnits (n : Nat) (w : Width) (src dst : Word) (h : OnlyUnits s t) :
    OnlyUnits s (copyUnits n w src dst t) := by
  induction n generalizing src dst t with
  | zero => exact h
  | succ n ih => exact ih _ _ (h.memWrite _ _ _)

theorem moveUnits (fill : Bool) (n : Nat) (w : Width) (src dst : Word) (s : State) :
    OnlyUnits s (moveUnits fill n w src dst s) := by
  cases fill with
  | false => exact copyUnits n w src dst (.refl s)
  | true => exact fillUnits n w dst _ (.refl s)

theorem lzCopy (len : Nat) (dst : Word) (size disp : Nat) {x : LzPos} (h : OnlyUnits s x.st) :
    OnlyUnits s (lzCopy len dst size disp x).st := by
  induction len generalizing x with
  | zero => exact h
  | succ len ih =>
    unfold Machine.lzCopy
    split
    case isTrue =>
      refine ih ?_
      dsimp only
      exact h.memWrite _ _ _
    case isFalse => exact h

theorem lzToken (ref : Bool) (dst : Word) (size : Nat) {x : LzPos} (h : OnlyUnits s x.st) :
    OnlyUnits s (lzToken ref dst size x).st := by
  cases ref with
  | false =>
    simp only [Machine.lzToken, Bool.false_eq_true, if_false]
    exact h.memWrite _ _ _
  | true =>
    simp only [Machine.lzToken, if_true]
    split
    case isTrue => exact h
    case isFalse => exact lzCopy _ dst size _ (x := { x with p := x.p + 2 }) h

theorem lzTokens (k : Nat) (flags dst : Word) (size : Nat) {x : LzPos} (h : OnlyUnits s x.st) :
    OnlyUnits s (lzTokens k flags dst size x).st := by
  induction k generalizing x with
  | zero => exact h
  | succ k ih =>
    unfold Machine.lzTokens
    split
    case isTrue => exact h
    case isFalse => exact ih (lzToken _ dst size h)

theorem lzStream (fuel : Nat) (dst : Word) (size : Nat) {x : LzPos} (h : OnlyUnits s x.st) :
    OnlyUnits s (lzStream fuel dst size x).st := by
  induction fuel generalizing x with
  | zero => exact h
  | succ fuel ih =>
    unfold Machine.lzStream
    split
    case isTrue => exact h
    case isFalse => exact ih (lzTokens 8 _ dst size (x := { x with p := x.p + 1 }) h)

theorem lz77 (s : State) : OnlyUnits s (lz77 s) := by
  unfold Machine.lz77
  split
  case isTrue => exact lzStream _ _ _ (.refl s)
  case isFalse => exact .refl s

theorem clearIf (h : OnlyUnits s t) (b : Bool) (r : Region) (lo hi : Nat) : OnlyUnits s (clearIf b r lo hi t) :=
  h.trans (by cases b <;> constructor <;> rfl)

theorem registerRamReset (s : State) : OnlyUnits s (registerRamReset s) :=
  (((((refl s).clearIf _ _ _ _).clearIf _ _ _ _).clearIf _ _ _ _).clearIf _ _ _ _).clearIf _ _ _ _

end OnlyUnits

/-- The PC and the status registers are as they were. -/
structure SameStatus (s t : State) : Prop where
  pc : t.pc = s.pc
  cpsr : t.cpsr = s.cpsr
  spsr : t.spsr = s.spsr

theorem OnlyUnits.sameStatus {s t : State} (h : OnlyUnits s t) : SameStatus s t := ⟨h.pc, h.cpsr, h.spsr⟩

/-- No routine but SoftReset touches the PC or the status (47 R801). -/
theorem hleRoutine_sameStatus {n : Byte} {s t : State} (h : hleRoutine n s = some t) : SameStatus s t := by
  unfold hleRoutine at h
  split at h <;> cases h
  case h_1 => exact (OnlyUnits.registerRamReset s).sameStatus
  case h_8 | h_9 => exact (OnlyUnits.moveUnits _ _ _ _ _ s).sameStatus
  case h_11 => exact (OnlyUnits.lz77 s).sameStatus
  all_goals exact ⟨rfl, rfl, rfl⟩

theorem zeroRegs_sameStatus (gs : List GReg) (s : State) : SameStatus s (zeroRegs gs s) := by
  induction gs generalizing s with
  | nil => exact ⟨rfl, rfl, rfl⟩
  | cons g rest ih =>
    obtain ⟨hpc, hcpsr, hspsr⟩ := ih (s.setGreg g 0)
    exact ⟨hpc, hcpsr, hspsr⟩

/-- The state in which SoftReset clears registers and sets the PC: the banks of Supervisor, IRQ and User mode are reset (47 R810). -/
def softResetBanks (u : State) : State :=
  let svc := ((u.setGreg (.sp .svc) 0x03007FE0).setGreg (.lr .svc) 0).setSpsr .svc resetSpsr
  let irq := ((svc.setGreg (.sp .irq) 0x03007FA0).setGreg (.lr .irq) 0).setSpsr .irq resetSpsr
  ((irq.setCpsr resetCpsr).setGreg (.sp .usr) 0x03007F00).setGreg (.lr .usr) 0

theorem softReset_eq (s : State) :
    softReset s = (zeroRegs userR0toR12 (softResetBanks (zeroBytes 0x200 0x03007E00 s))).setPc
      (if s.memRead 0x03007FFA .b1 = 0 then 0x08000000 else 0x02000000) := rfl

theorem softResetBanks_cpsr (u : State) : (softResetBanks u).cpsr = resetCpsr := rfl

theorem softResetBanks_spsrOf (u : State) {e : Exc} (hsvc : e ≠ .svc) (hirq : e ≠ .irq) :
    (softResetBanks u).spsrOf e = u.spsrOf e := by
  simp [softResetBanks, State.spsrOf_setSpsr, hsvc, hirq]

end Sys2Proof.Machine
end

section
/-! The writers of T and of the SPSRs, the frame of what stores nothing, and the alignment of the PC (10 R108, R111, R115). -/

namespace Sys2Proof.Claims

open Sys2Proof.Machine

/-! ### System calls (47 R810; 60 R925) -/

/-- What an SWI may do to the SPSRs and the PC: only the SPSRs of Supervisor and IRQ mode can change, and the PC is left where the next
instruction can stand. -/
structure CallEffect (thumb : Bool) (s t : State) : Prop where
  spsr : ∀ e, e ≠ Exc.svc → e ≠ Exc.irq → t.spsrOf e = s.spsrOf e
  aligned : s.cpsr.t = thumb → s.pcAligned = true → t.pcAligned = true

theorem CallEffect.advance {thumb : Bool} {s t : State} (h : SameStatus s t) {len : Word} (hl : Aligned thumb len) :
    CallEffect thumb s (t.advancePc len) := by
  refine ⟨fun e _ _ => State.spsrOf_congr h.spsr e, fun ht hp => ?_⟩
  rw [pcAligned_iff, ht] at hp
  rw [pcAligned_iff, State.advancePc_cpsr, h.cpsr, ht, State.advancePc_pc, h.pc]
  exact hp.add hl

theorem CallEffect.softReset (thumb : Bool) (s : State) : CallEffect thumb s (softReset s) := by
  have hzero : SameStatus s (zeroBytes 0x200 0x03007E00 s) := (OnlyUnits.zeroBytes _ _ (.refl s)).sameStatus
  rw [softReset_eq]
  generalize zeroBytes 0x200 0x03007E00 s = u at hzero
  obtain ⟨-, hcpsr, hspsr⟩ := zeroRegs_sameStatus userR0toR12 (softResetBanks u)
  constructor
  · intro e hsvc hirq
    rw [State.spsrOf_setPc, State.spsrOf_congr hspsr, softResetBanks_spsrOf u hsvc hirq, State.spsrOf_congr hzero.spsr]
  · intro _ _
    rw [pcAligned_iff, State.setPc_cpsr, hcpsr, softResetBanks_cpsr, State.setPc_pc]
    have hrom : Aligned false 0x08000000 := rfl
    have hram : Aligned false 0x02000000 := rfl
    split
    · exact hrom
    · exact hram

theorem CallEffect.softwareInterrupt {thumb : Bool} {len : Word} (hl : Aligned thumb len) (n : Byte) (s : State) :
    Ends (CallEffect thumb s) (softwareInterrupt n len s) := by
  refine Ends.ite (fun _ => Ends.next ?_) fun _ => Ends.next ⟨fun e hsvc _ => ?_, fun _ _ => ?_⟩
  · unfold callHle
    split
    case isTrue => exact softReset thumb s
    case isFalse =>
      split
      case h_1 t ht => exact advance (hleRoutine_sameStatus ht) hl
      case h_2 =>
        have h : SameStatus s (s.report (.unimplementedSyscall n)) := ⟨rfl, rfl, rfl⟩
        exact advance h hl
  · show ((s.setSpsr .svc s.cpsr.toPsr)).spsrOf e = s.spsrOf e
    rw [State.spsrOf_setSpsr, if_neg hsvc]
  · have hv : Aligned false swiVector := rfl
    exact (pcAligned_iff _).mpr hv

theorem exec_callEffect {i : Instr} (h : isCall i = true) (s : State) :
    Ends (CallEffect (condOf i).isNone s) (exec i s) := by
  cases i with
  | swi => exact Ends.ite (fun _ => .softwareInterrupt aligned_four _ s) fun _ => Ends.next (.advance ⟨rfl, rfl, rfl⟩ aligned_four)
  | tSwi => exact CallEffect.softwareInterrupt aligned_two _ s
  | _ => cases h

/-! ### Status bits -/

/-- Only BX may change T alone: the other rows of the table, each by its S bit, have other bits. -/
theorem isExchange_of_statusBits {i : Instr} (h : statusBits i = .t) :
    (∃ c rm, i = .bx c rm) ∨ (∃ h rs rd, i = .tBx h rs rd) := by
  unfold statusBits at h
  split at h
  case h_58 c rm => exact .inl ⟨c, rm, rfl⟩
  case h_59 h1 rs rd => exact .inr ⟨h1, rs, rd, rfl⟩
  all_goals (repeat' split at h) <;> cases h

/-- Any CPSR bit may change by a PSR restore or an MSR only. -/
theorem isRestore_of_statusBits {i : Instr} (h : statusBits i = .any) :
    isRestore i = true ∨ (∃ c mask rm, i = .msrReg c false mask rm) ∨ (∃ c mask rot imm8, i = .msrImm c false mask rot imm8) := by
  unfold isRestore
  split
  case h_1 | h_4 => exact .inl (decide_eq_true h)
  case h_2 c r mask rm => cases r with
    | false => exact .inr (.inl ⟨c, mask, rm, rfl⟩)
    | true => cases h
  case h_3 c r mask rot imm8 => cases r with
    | false => exact .inr (.inr ⟨c, mask, rot, imm8, rfl⟩)
    | true => cases h

theorem exec_msr_thumb {i : Instr} {s t : State} (h : exec i s = .next t)
    (hi : (∃ c mask rm, i = .msrReg c false mask rm) ∨ (∃ c mask rot imm8, i = .msrImm c false mask rot imm8)) :
    t.cpsr.t = s.cpsr.t := by
  have hmsr (mask : BitVec 4) (v : Word) : Ends (fun u => u.cpsr.t = s.cpsr.t) (msr false mask v s) := by
    intro u hu
    obtain ⟨p, hp, rfl⟩ := msrCpsr_ends mask v s u hu
    exact hp
  obtain ⟨c, mask, rm, rfl⟩ | ⟨c, mask, rot, imm8, rfl⟩ := hi
  · have hend : Ends (fun u => u.cpsr.t = s.cpsr.t) (execMsrReg c false mask rm s) :=
      Ends.ite (fun _ => Ends.ite (fun _ => Ends.fault) fun _ => hmsr mask _) fun _ => Ends.next rfl
    exact hend t h
  · have hend : Ends (fun u => u.cpsr.t = s.cpsr.t) (execMsrImm c false mask rot imm8 s) :=
      Ends.ite (fun _ => hmsr mask _) fun _ => Ends.next rfl
    exact hend t h

/-! ### The obligations -/

/-- Settles O19: by the status bits that the instruction may change, and by what an MSR of the CPSR stops at. -/
theorem thumbBitWriters : Obligations.ThumbBitWriters := by
  intro i s t h ht
  cases hcall : isCall i with
  | true => exact .inr (.inr (.inr rfl))
  | false =>
    have hs := (exec_effect i s hcall t h).status
    cases hb : statusBits i with
    | t => exact (isExchange_of_statusBits hb).elim .inl fun h => .inr (.inl h)
    | any =>
      obtain hr | hm := isRestore_of_statusBits hb
      · exact .inr (.inr (.inl hr))
      · exact absurd (exec_msr_thumb h hm) ht
    | none | nz | nzc | nzcv =>
      rw [hb] at hs
      exact absurd (by rw [hs]) ht

theorem mode_of_exc? {m : Mode} {e : Exc} (h : m.exc? = some e) : m = e.mode := by
  cases m <;> cases h <;> rfl

/-- Settles O20: by the effect of an instruction that is no SWI, and of an SWI. -/
theorem savedStatusWriters : Obligations.SavedStatusWriters := by
  intro i s t e h he
  cases hcall : isCall i with
  | true =>
    refine .inr ⟨rfl, ?_⟩
    by_contra hn
    obtain ⟨hsvc, hirq⟩ := not_or.mp hn
    exact he ((exec_callEffect hcall s t h).spsr e hsvc hirq)
  | false =>
    left
    by_contra hn
    refine he ((exec_effect i s hcall t h).spsr e (Bool.eq_false_iff.mpr fun hw => hn ?_))
    rw [Bool.and_eq_true, decide_eq_true_eq] at hw
    exact ⟨hw.1, mode_of_exc? hw.2⟩

/-- Settles O55: the effect of the instruction, and what every instruction keeps. -/
theorem frameOfNonStoring : Obligations.FrameOfNonStoring := by
  intro i s t hstore hcall h
  have e := exec_effect i s hcall t h
  have k := exec_keeps i s t h
  obtain ⟨hmem, hic, hppu, hcart⟩ := e.units hstore
  exact ⟨e.regs, e.status, e.spsr, State.read8_congr hmem hic hppu hcart k.params, ⟨hmem, hic, hppu, hcart⟩,
    ⟨k.faulted, k.cycleCount, k.instrCount, k.params, k.pendingCycles, k.callback, k.delivered⟩, e.wait, e.log⟩

/-! ### The alignment of the PC (10 R108) -/

theorem armRows_condOf : armRows.Forall fun r => ∀ w, (condOf (r.build w)).isNone = false := by
  repeat' first | exact fun _ => rfl | constructor

theorem thumbRows_condOf : thumbRows.Forall fun r => ∀ h, (condOf (r.build h)).isNone = true := by
  repeat' first | exact fun _ => rfl | constructor

/-- A word decodes to an instruction of the set that T selects (30 R300): those of the ARM set have a condition field. -/
theorem condOf_decode_fetch {s : State} {i : Instr} (h : decode (fetch s) = some i) : (condOf i).isNone = s.cpsr.t := by
  unfold fetch at h
  cases ht : s.cpsr.t with
  | false =>
    rw [ht, if_neg Bool.false_ne_true, decode_arm, Option.map_eq_some_iff] at h
    obtain ⟨r, hr, rfl⟩ := h
    exact List.forall_iff_forall_mem.mp armRows_condOf r (List.mem_of_find?_eq_some hr) _
  | true =>
    rw [ht, if_pos rfl, decode_thumb, Option.map_eq_some_iff] at h
    obtain ⟨r, hr, rfl⟩ := h
    exact List.forall_iff_forall_mem.mp thumbRows_condOf r (List.mem_of_find?_eq_some hr) _

theorem exec_aligned {i : Instr} {s t : State} (h : exec i s = .next t) (hi : (condOf i).isNone = s.cpsr.t)
    (hp : s.pcAligned = true) : t.pcAligned = true := by
  cases hcall : isCall i with
  | true => exact (exec_callEffect hcall s t h).aligned hi.symm hp
  | false => exact (exec_effect i s hcall t h).aligned hi.symm hp

theorem runUnmatched_aligned {s t : State} {n : Nat} (h : runUnmatched (fetch s) s = .next (t, n))
    (hp : s.pcAligned = true) : t.pcAligned = true := by
  rw [pcAligned_iff] at hp ⊢
  unfold fetch runUnmatched at h
  cases ht : s.cpsr.t with
  | false =>
    rw [ht] at hp
    simp only [ht, Bool.false_eq_true, if_false] at h
    have h4 : Aligned s.cpsr.t (s.pc + 4) := by rw [ht]; exact hp.add aligned_four
    split at h
    · cases h; exact h4
    · cases h; exact h4
  | true =>
    rw [ht] at hp
    simp only [ht, if_true] at h
    have h2 : Aligned s.cpsr.t (s.pc + 2) := by rw [ht]; exact hp.add aligned_two
    cases h; exact h2

/-- A step of the CPU keeps the PC aligned: waiting moves nothing, an IRQ goes to its vector, and an instruction runs in its own set. -/
theorem cpuStep_aligned {s : State} {r : State × Nat} (h : cpuStep s = .next r) (hp : s.pcAligned = true) :
    r.1.pcAligned = true := by
  have woken {u : State} (w : Woken s u) : u.pcAligned = true := by
    rw [w.same]; exact hp
  cases cpuStep_cases h with
  | waits u w eq => rw [eq]; exact woken w
  | enters u _ _ _ eq =>
    have hv : Aligned false irqVector := rfl
    rw [eq]
    exact (pcAligned_iff _).mpr hv
  | runs u t i w fetched ran eq =>
    have ht : t.pcAligned = true := exec_aligned ran (condOf_decode_fetch fetched) (woken w)
    rw [eq]
    exact ht
  | unmatched u t w _ ran eq =>
    have ht : t.pcAligned = true := runUnmatched_aligned ran (woken w)
    rw [eq]
    exact ht

/-- Settles O15: the CPU's step keeps the PC aligned, and what follows it moves neither the PC nor T. -/
theorem stepKeepsPcAligned : Obligations.StepKeepsPcAligned := by
  intro s t hp h
  obtain ⟨r, hr, rfl⟩ := step_next h
  have ha := afterStep_aside r.2 r.1
  rw [pcAligned_iff, ha.pc, ha.cpsr]
  exact (pcAligned_iff _).mp (cpuStep_aligned hr hp)

end Sys2Proof.Claims
end

section
/-! The counts of a step (60 R904, R942; 10 R123): which CPU stays asleep, and what a step of one that is awake counts. -/

namespace Sys2Proof.Claims

open Sys2Proof.Machine

/-! ### Who stays asleep (60 R900, R940, R941, R944) -/

theorem ne_zero_iff_getLsbD {n : Nat} (a : BitVec n) : a ≠ 0 ↔ ∃ k, k < n ∧ a.getLsbD k = true := by
  constructor
  · intro h
    by_contra hn
    exact h (BitVec.eq_of_getLsbD_eq fun k hk => by
      simpa using (fun hb => hn ⟨k, hk, hb⟩ : ¬a.getLsbD k = true))
  · rintro ⟨k, -, hb⟩ rfl
    simp at hb

/-- 60 R912. -/
theorem pendingInterrupt_isSome_iff (s : State) :
    s.pendingInterrupt.isSome = true ↔ s.ic.ime = true ∧ s.ic.ie &&& s.ic.iff ≠ 0 := by
  unfold State.pendingInterrupt
  cases s.ic.ime with
  | false => simp
  | true => rw [ne_zero_iff_getLsbD]; simp

theorem wakeStop_eq_none_iff (s : State) :
    wakeStop s = none ↔ s.stopped = true ∧ s.params.stopWakeMask &&& s.ic.ie.setWidth 16 &&& s.ic.iff.setWidth 16 = 0 := by
  unfold wakeStop stopWakes
  cases s.stopped <;> simp

theorem wakeHalt_eq_none_iff (s : State) :
    wakeHalt s = none ↔
      (s.halted = true ∧ s.waitKind = .halt ∧ ¬(s.ic.ime = true ∧ s.ic.ie &&& s.ic.iff ≠ 0)) ∨
      (s.halted = true ∧ s.waitKind = .intrWait ∧ s.ic.shadow &&& s.waitMask = 0) ∨
      (s.halted = true ∧ s.waitKind = .none) := by
  rw [← pendingInterrupt_isSome_iff]
  unfold wakeHalt intrWaitWakes
  cases s.halted with
  | false => simp
  | true => cases s.waitKind <;> simp

/-- A CPU that has left Stop, or was not in it, stays halted exactly where it did before. -/
theorem wakeHalt_of_wakeStop {s u : State} (h : wakeStop s = some u) : wakeHalt u = none ↔ wakeHalt s = none := by
  have hu : u = s ∨ u = s.unstopped := by
    unfold wakeStop at h
    split at h
    · split at h
      · cases h; exact .inr rfl
      · cases h
    · cases h; exact .inl rfl
  obtain rfl | rfl := hu
  · rfl
  · rw [wakeHalt_eq_none_iff, wakeHalt_eq_none_iff]; rfl

/-- A sleeping CPU waits; any other one wakes, or was awake, and goes on. -/
theorem cpuStep_asleep_or_awake {s : State} {r : State × Nat} (h : cpuStep s = .next r) :
    (StaysAsleep s ∧ ∃ u, Woken s u ∧ r = (u, haltCyc u)) ∨
      (¬StaysAsleep s ∧ ∃ u, Woken s u ∧ awakeStep u = .next r) := by
  have hsleep : StaysAsleep s ↔ wakeStop s = none ∨ wakeHalt s = none := by
    rw [wakeStop_eq_none_iff, wakeHalt_eq_none_iff]; rfl
  unfold cpuStep at h
  split at h
  case isTrue => cases h
  case isFalse =>
    split at h
    case h_1 hs => cases h; exact .inl ⟨hsleep.mpr (.inl hs), s, .refl s, rfl⟩
    case h_2 u hs =>
      split at h
      case h_1 hh =>
        cases h
        exact .inl ⟨hsleep.mpr (.inr ((wakeHalt_of_wakeStop hs).mp hh)), u, wakeStop_woken hs, rfl⟩
      case h_2 v hh =>
        refine .inr ⟨fun hn => ?_, v, (wakeStop_woken hs).trans (wakeHalt_woken hh), h⟩
        obtain hn | hn := hsleep.mp hn
        · rw [hs] at hn; cases hn
        · rw [(wakeHalt_of_wakeStop hs).mpr hn] at hh; cases hh

/-! ### What a step costs and counts -/

theorem runCode_keeps {code : Code} {s : State} {r : State × Nat} (h : runCode code s = .next r) :
    Keeps s r.1 ∧ 1 ≤ r.2 := by
  unfold runCode at h
  split at h
  case h_1 =>
    unfold runUnmatched at h
    split at h
    case h_1 =>
      split at h
      case isTrue => cases h; exact ⟨(Keeps.refl s).anomaly _ _, Nat.le_refl 1⟩
      case isFalse => cases h; exact ⟨(Keeps.refl s).advancePc _, cycOf_pos _ s⟩
    case h_2 => cases h; exact ⟨(Keeps.refl s).anomaly _ _, Nat.le_refl 1⟩
  case h_2 i _ =>
    unfold runInstr at h
    split at h
    case h_1 t ht => cases h; exact ⟨exec_keeps i s t ht, instrCost_pos i s⟩
    case h_2 | h_3 => cases h

/-- An IRQ entry counts no instruction, every other step of a CPU that is awake counts one. -/
theorem awakeStep_counts {s : State} {r : State × Nat} (h : awakeStep s = .next r) :
    1 ≤ r.2 ∧ r.1.cycleCount = s.cycleCount ∧
      r.1.instrCount = s.instrCount + (if s.pendingInterrupt.isSome && !s.cpsr.i then 0 else 1) := by
  unfold awakeStep at h
  split at h
  case isTrue hirq =>
    cases h
    rw [if_pos hirq]
    exact ⟨Nat.le_add_right 1 _, rfl, (BitVec.add_zero _).symm⟩
  case isFalse hirq =>
    unfold instrStep at h
    split at h
    case h_1 q hq =>
      obtain ⟨hk, hcost⟩ := runCode_keeps hq
      cases h
      rw [if_neg hirq]
      exact ⟨hcost, hk.cycleCount, congrArg (· + 1) hk.instrCount⟩
    case h_2 | h_3 => cases h

theorem pendingInterrupt_of_woken {s u : State} (w : Woken s u) : u.pendingInterrupt = s.pendingInterrupt := by
  rw [w.same]; rfl

/-- Settles O12: what the CPU's step counts, asleep or awake, and that what follows it adds the cycles. -/
theorem stepCountsCyclesAndInstructions : Obligations.StepCountsCyclesAndInstructions := by
  intro s r h
  have hstep : step s = .next (afterStep r.2 r.1) := by unfold step; rw [h]
  have hafter := afterStep_aside r.2 r.1
  obtain ⟨hs, u, w, rfl⟩ | ⟨hs, u, w, hu⟩ := cpuStep_asleep_or_awake h
  · refine ⟨Nat.le_add_right 1 _, ⟨_, hstep, by rw [hafter.cycleCount, w.same]; rfl⟩, fun t ht => ?_⟩
    have hsame : t.instrCount = s.instrCount := by
      cases hstep.symm.trans ht
      rw [hafter.instrCount, w.same]; rfl
    exact ⟨fun _ => hsame, fun hn => absurd hs hn, fun hn => absurd hs hn⟩
  · obtain ⟨hcost, hcycles, hinstr⟩ := awakeStep_counts hu
    have hcyc : r.1.cycleCount = s.cycleCount := by rw [hcycles, w.same]
    rw [pendingInterrupt_of_woken w, show u.instrCount = s.instrCount by rw [w.same],
      show u.cpsr = s.cpsr by rw [w.same]] at hinstr
    refine ⟨hcost, ⟨_, hstep, by rw [hafter.cycleCount, ← hcyc]; rfl⟩, fun t ht => ?_⟩
    have hcount : t.instrCount = r.1.instrCount := by
      cases hstep.symm.trans ht
      rw [hafter.instrCount]; rfl
    refine ⟨fun hn => absurd hn hs, fun _ hirq => ?_, fun _ hirq => ?_⟩
    · rw [hcount, hinstr, if_pos (by simpa [Option.isSome_iff_ne_none] using hirq)]
      exact BitVec.add_zero _
    · rw [hcount, hinstr, if_neg]
      obtain hn | hi := hirq
      · simp [hn]
      · simp [hi]

end Sys2Proof.Claims
end

section
/-! The intercepted registers (20 R230 to R233; 10 R131, R141 to R145): the two lanes of one, what a write of one leaves in it and in the
others, and the halfword and byte accesses that reach it. -/

namespace Sys2Proof.Claims

open Sys2Proof.Machine

/-! ### The two lanes of a register -/

theorem toNat_align2 (a : Word) : (align2 a).toNat = a.toNat - a.toNat % 2 := by
  have h : align2 a = (a >>> 1) <<< 1 := by
    unfold align2
    ext i hi
    have := hi
    interval_cases i <;> simp
  rw [h, BitVec.toNat_shiftLeft, BitVec.toNat_ushiftRight, Nat.shiftLeft_eq, Nat.shiftRight_eq_div_pow]
  omega

/-- The odd byte of a halfword is in the region of the even one, at the next offset (20 R204). -/
theorem regionOf_align2_add_one (a : Word) : regionOf (align2 a + 1) = regionOf (align2 a) := by
  have h := toNat_align2 a
  have e : ((align2 a + 1).extractLsb' 24 8).toNat = ((align2 a).extractLsb' 24 8).toNat := by
    rw [BitVec.extractLsb'_toNat, BitVec.extractLsb'_toNat, BitVec.toNat_add, Nat.shiftRight_eq_div_pow, Nat.shiftRight_eq_div_pow]
    simp
    omega
  unfold regionOf
  rw [e]

theorem offsetOf_align2_add_one {a : Word} (h : regionOf (align2 a) = .io ∨ regionOf (align2 a) = .iwram) :
    offsetOf (align2 a + 1) = offsetOf (align2 a) + 1 ∧ offsetOf (align2 a) % 2 = 0 := by
  have ha := toNat_align2 a
  unfold offsetOf
  rw [regionOf_align2_add_one, BitVec.extractLsb'_toNat, BitVec.extractLsb'_toNat, BitVec.toNat_add]
  have hs : (regionOf (align2 a)).size = 0x400 ∨ (regionOf (align2 a)).size = 0x8000 := by
    obtain h | h := h <;> rw [h]
    · exact .inl rfl
    · exact .inr rfl
  simp
  obtain hs | hs := hs <;> rw [hs] <;> omega

theorem storagePlace_dev {r : Region} {off : Nat} {d : DevReg} {lane1 : Bool} (h : storagePlace r off = .dev d lane1) :
    deviceAt r (off / 2) = some d ∧ (r = .io ∨ r = .iwram) := by
  unfold storagePlace at h
  split at h
  case h_1 e hd =>
    cases h
    refine ⟨hd, ?_⟩
    cases r with
    | io => exact .inl rfl
    | iwram => exact .inr rfl
    | _ => cases hd
  case h_2 => cases h

theorem placeOf_dev {x : Bool} {a : Word} {d : DevReg} {lane1 : Bool} (h : placeOf x a = .dev d lane1) :
    deviceAt (regionOf a) (offsetOf a / 2) = some d ∧ (regionOf a = .io ∨ regionOf a = .iwram) := by
  unfold placeOf at h
  split at h
  case h_1 | h_2 => cases h
  case h_3 =>
    split at h
    · cases h
    · unfold cartPlace at h
      split at h
      · cases h
      · split at h <;> cases h
  all_goals
    next hr => rw [hr]; exact storagePlace_dev h

theorem placeOf_storage (x : Bool) {a : Word} (h : regionOf a = .io ∨ regionOf a = .iwram) :
    placeOf x a = storagePlace (regionOf a) (offsetOf a) := by
  unfold placeOf
  obtain h | h := h <;> rw [h]

theorem place_dev_odd {s : State} {a : Word} {r : DevReg} (h : s.place (align2 a) = .dev r false) :
    s.place (align2 a + 1) = .dev r true := by
  obtain ⟨hd, hr⟩ := placeOf_dev h
  obtain ⟨ho, he⟩ := offsetOf_align2_add_one hr
  unfold State.place
  rw [placeOf_storage _ (by rw [regionOf_align2_add_one]; exact hr), regionOf_align2_add_one, ho]
  unfold storagePlace
  rw [show (offsetOf (align2 a) + 1) / 2 = offsetOf (align2 a) / 2 by omega, hd]
  simp; omega

theorem eq_align2 (a : Word) : a = if a.getLsbD 0 then align2 a + 1 else align2 a := by
  have ha := toNat_align2 a
  have hb : a.getLsbD 0 = decide (a.toNat % 2 = 1) := by simp [BitVec.getLsbD, Nat.testBit_zero]
  have hlt := a.isLt
  apply BitVec.eq_of_toNat_eq
  rw [hb]
  by_cases h : a.toNat % 2 = 1
  · rw [decide_eq_true h, if_pos rfl, BitVec.toNat_add, ha, h]
    have h1 : (1 : Word).toNat = 1 := rfl
    omega
  · rw [decide_eq_false h, if_neg Bool.false_ne_true, ha]; omega

theorem place_dev_byte {s : State} {a : Word} {r : DevReg} (h : s.place (align2 a) = .dev r false) :
    s.place a = .dev r (a.getLsbD 0) := by
  have ha := eq_align2 a
  cases hb : a.getLsbD 0 with
  | false => rw [hb] at ha; rw [ha]; exact h
  | true => rw [hb] at ha; rw [ha]; exact place_dev_odd h

theorem regionOf_ne_unmapped {s : State} {a : Word} {r : DevReg} {lane1 : Bool} (h : s.place a = .dev r lane1) :
    regionOf a ≠ .unmapped := by
  intro hu
  obtain hr | hr := (placeOf_dev h).2 <;> rw [hr] at hu <;> cases hu

/-! ### One register -/

theorem setBg_bg (s : State) (n m : Fin 4) (b : Bg) : (s.setBg n b).ppu.bg[m] = if m = n then b else s.ppu.bg[m] := by
  show (s.ppu.bg.set n.val b)[m.val] = _
  rw [Vector.getElem_set]
  by_cases h : m = n
  · rw [if_pos (by rw [h]), if_pos h]
  · rw [if_neg (fun e => h (Fin.ext e.symm)), if_neg h]; rfl

/-- The low bits of a halfword, as a field and as a mask. -/
theorem setWidth_extractLsb'_low (v : Half) (n : Nat) :
    (v.extractLsb' 0 n).setWidth 16 = v &&& BitVec.ofNat 16 (2 ^ n - 1) := by
  refine BitVec.eq_of_getLsbD_eq fun i hi => ?_
  rw [BitVec.getLsbD_setWidth, BitVec.getLsbD_extractLsb', BitVec.getLsbD_and, BitVec.getLsbD_ofNat,
    Nat.testBit_two_pow_sub_one]
  simp [hi, Bool.and_comm]

/-- 10 R142. -/
theorem toHalf_write (d : DispStat) (v : Half) : (d.write v).toHalf = (v &&& 0xFF38) ||| (d.toHalf &&& 0x0007) := by
  refine BitVec.eq_of_getLsbD_eq fun i hi => ?_
  simp only [DispStat.toHalf, DispStat.write, BitVec.getLsbD_or, BitVec.getLsbD_and, BitVec.getLsbD_append,
    BitVec.getLsbD_extractLsb', BitVec.getLsbD_ofBool]
  interval_cases i <;> simp

/-- 10 R131. -/
theorem setWidth_clearedByOnes (x : BitVec 14) (v : Half) :
    (x &&& ~~~(v.extractLsb' 0 14)).setWidth 16 = x.setWidth 16 &&& ~~~v := by
  refine BitVec.eq_of_getLsbD_eq fun i hi => ?_
  simp only [BitVec.getLsbD_setWidth, BitVec.getLsbD_and, BitVec.getLsbD_not, BitVec.getLsbD_extractLsb']
  interval_cases i <;> simp

theorem setWidth_ofBool_bit0 (v : Half) : (BitVec.ofBool (v.getLsbD 0)).setWidth 16 = v &&& 0x0001 := by
  refine BitVec.eq_of_getLsbD_eq fun i hi => ?_
  simp only [BitVec.getLsbD_and, BitVec.getLsbD_setWidth, BitVec.getLsbD_ofBool]
  interval_cases i <;> simp

/-- 10 R131, R141 to R145: what a write leaves in the register itself. -/
theorem devRead_devWrite_self (s : State) (r : DevReg) (v : Half) :
    (s.devWrite r v).devRead r = regAfterWrite r (s.devRead r) v := by
  cases r with
  | dispcnt | vcount | shadow => rfl
  | dispstat => exact toHalf_write s.ppu.dispstat v
  | bgcnt n =>
    unfold State.devWrite State.devRead regAfterWrite
    dsimp only
    rw [setBg_bg, if_pos rfl]
  | bghofs n | bgvofs n =>
    unfold State.devWrite State.devRead regAfterWrite
    dsimp only
    rw [setBg_bg, if_pos rfl]
    exact setWidth_extractLsb'_low v 9
  | ie => exact setWidth_extractLsb'_low v 14
  | iff => exact setWidth_clearedByOnes s.ic.iff v
  | ime => exact setWidth_ofBool_bit0 v

/-- A write reaches no other register. -/
theorem devRead_devWrite_ne (s : State) {r r' : DevReg} (h : r' ≠ r) (v : Half) :
    (s.devWrite r v).devRead r' = s.devRead r' := by
  cases r with
  | vcount => rfl
  | bgcnt n | bghofs n | bgvofs n =>
    cases r' with
    | bgcnt m | bghofs m | bgvofs m =>
      unfold State.devWrite State.devRead
      dsimp only
      rw [setBg_bg]
      split
      case isTrue e => subst e; first | rfl | exact absurd rfl h
      case isFalse => rfl
    | _ => rfl
  | dispcnt | dispstat | ie | iff | ime | shadow => cases r' <;> first | rfl | exact absurd rfl h

/-! ### A byte at a time (20 R233) -/

theorem devRead_devWriteByte_self (s : State) (r : DevReg) (lane1 : Bool) (b : Byte) :
    (s.devWriteByte r lane1 b).devRead r =
      regAfterWrite r (s.devRead r) (withLane (if r = .iff then 0 else s.devRead r) lane1 b) := by
  rw [State.devWriteByte, devRead_devWrite_self, State.otherLane]

theorem byteWriteValue_eq (r : DevReg) (old : Half) (odd : Bool) (b : Byte) :
    byteWriteValue r old odd b = withLane (if r = .iff then 0 else old) odd b := by
  unfold byteWriteValue withLane
  dsimp only
  generalize (if r = .iff then 0 else old) = other
  refine BitVec.eq_of_getLsbD_eq fun i hi => ?_
  cases odd with
  | true =>
    simp only [if_true, BitVec.getLsbD_append, BitVec.getLsbD_setWidth, BitVec.getLsbD_extractLsb']
    interval_cases i <;> simp
  | false =>
    simp only [Bool.false_eq_true, if_false, BitVec.getLsbD_or, BitVec.getLsbD_and, BitVec.getLsbD_append,
      BitVec.getLsbD_setWidth, BitVec.getLsbD_extractLsb']
    interval_cases i <;> simp

/-- The two byte writes of a halfword write make the write of the halfword: no write rule mixes the lanes. -/
theorem regAfterWrite_lanes (r : DevReg) (old : Half) (lo hi : Byte) :
    regAfterWrite r (regAfterWrite r old (withLane (if r = .iff then 0 else old) false lo))
      (withLane (if r = .iff then 0 else regAfterWrite r old (withLane (if r = .iff then 0 else old) false lo)) true hi) =
        regAfterWrite r old (hi ++ lo) := by
  cases r <;> simp only [regAfterWrite, withLane, reduceCtorEq, if_false, if_true, Bool.false_eq_true]
  all_goals
    refine BitVec.eq_of_getLsbD_eq fun i hi => ?_
    simp only [BitVec.getLsbD_or, BitVec.getLsbD_and, BitVec.getLsbD_not, BitVec.getLsbD_append, BitVec.getLsbD_extractLsb']
    interval_cases i <;> simp

theorem write8_dev {s : State} {a : Word} {r : DevReg} {lane1 : Bool} (h : s.place a = .dev r lane1) (b : Byte) :
    s.write8 a b = s.devWriteByte r lane1 b := by
  unfold State.write8; rw [h]

theorem read8_dev {s : State} {a : Word} {r : DevReg} {lane1 : Bool} (h : s.place a = .dev r lane1) :
    s.read8 a = laneOf (s.devRead r) lane1 := by
  unfold State.read8; rw [h]

theorem devWriteByte_mem (s : State) (r : DevReg) (lane1 : Bool) (b : Byte) :
    (s.devWriteByte r lane1 b).mem = s.mem ∧ (s.devWriteByte r lane1 b).cart = s.cart := State.devWrite_mem s r _

/-! ### Accesses (20 R220, R221) -/

theorem memWrite_half_dev {s : State} {a : Word} {r : DevReg} (h : s.place (align2 a) = .dev r false) (v : Word) :
    s.memWrite a .b2 v = (s.devWriteByte r false (byteOf v 0)).devWriteByte r true (byteOf v 1) := by
  have hodd : (s.devWriteByte r false (byteOf v 0)).place (align2 a + 1) = .dev r true := by
    rw [State.place_congr (s := s) (by rw [(devWriteByte_mem s r false _).2])]
    exact place_dev_odd h
  rw [State.memWrite, write8_dev h, write8_dev hodd]

theorem byteOf_append (v : Word) : byteOf v 1 ++ byteOf v 0 = v.setWidth 16 := by
  refine BitVec.eq_of_getLsbD_eq fun i hi => ?_
  simp only [byteOf, BitVec.getLsbD_append, BitVec.getLsbD_setWidth, BitVec.getLsbD_extractLsb']
  interval_cases i <;> simp

theorem byteOf_zero (v : Word) : byteOf v 0 = v.setWidth 8 := by
  refine BitVec.eq_of_getLsbD_eq fun i hi => ?_
  simp only [byteOf, BitVec.getLsbD_setWidth, BitVec.getLsbD_extractLsb']
  interval_cases i <;> simp

theorem laneOf_append (x : Half) : laneOf x true ++ laneOf x false = x := by
  refine BitVec.eq_of_getLsbD_eq fun i hi => ?_
  simp only [laneOf, if_true, Bool.false_eq_true, if_false, BitVec.getLsbD_append, BitVec.getLsbD_extractLsb']
  interval_cases i <;> simp

theorem toNat_laneOf (x : Half) (lane1 : Bool) :
    (laneOf x lane1).toNat = if lane1 then x.toNat / 256 else x.toNat % 256 := by
  have hx := x.isLt
  cases lane1 <;> simp [laneOf, BitVec.extractLsb'_toNat, Nat.shiftRight_eq_div_pow]; omega

/-- Settles O58: each access as byte accesses to the lanes of the register. -/
theorem interceptedRegisterWrites : Obligations.InterceptedRegisterWrites := by
  intro s a v r h
  have heven : s.place (align2 a) = .dev r false := h
  have hbyte := place_dev_byte h
  have hhalf := memWrite_half_dev h v
  have hone : s.memWrite a .b1 v = s.devWriteByte r (a.getLsbD 0) (byteOf v 0) := write8_dev hbyte _
  dsimp only
  rw [hhalf, hone]
  refine ⟨?_, ?_, fun r' hr => ?_, ?_, (devWriteByte_mem s r _ _).1, fun r' hr => devRead_devWrite_ne s hr _, ?_, ?_⟩
  · rw [devRead_devWriteByte_self, devRead_devWriteByte_self, regAfterWrite_lanes, byteOf_append]
  · rw [(devWriteByte_mem _ r _ _).1, (devWriteByte_mem s r _ _).1]
  · exact (devRead_devWrite_ne _ hr _).trans (devRead_devWrite_ne s hr _)
  · rw [devRead_devWriteByte_self, byteWriteValue_eq, byteOf_zero]
  · have hread : s.memRead a .b2 = zext (s.read8 (align2 a + 1) ++ s.read8 (align2 a)) :=
      if_neg (regionOf_ne_unmapped hbyte)
    rw [hread, read8_dev heven, read8_dev (place_dev_odd heven), laneOf_append]
    rfl
  · have hread : s.memRead a .b1 = zext (s.read8 a) := if_neg (regionOf_ne_unmapped hbyte)
    rw [hread, read8_dev hbyte, zext, BitVec.toNat_setWidth_of_le (by decide), toNat_laneOf]

end Sys2Proof.Claims
end

section
/-! A step keeps memory in its canonical form (20 R231, R232). -/

namespace Sys2Proof.Claims

open Sys2Proof.Machine

/-- Waiting and an IRQ entry leave memory alone; an instruction keeps its form. -/
theorem cpuStep_sound {s : State} {r : State × Nat} (h : cpuStep s = .next r) (hm : Memory.sound s.mem) :
    Memory.sound r.1.mem := by
  have woken {u : State} (w : Woken s u) : Memory.sound u.mem := by
    rw [w.same]; exact hm
  cases cpuStep_cases h with
  | waits u w eq => rw [eq]; exact woken w
  | enters u w _ _ eq =>
    have hu := woken w
    rw [eq]
    exact hu
  | runs u t i w _ ran eq => rw [eq]; exact (exec_keeps i u t ran).sound (woken w)
  | unmatched u t w fetched ran eq =>
    have hrun : runCode (fetch u) u = .next (t, r.2) := by rw [runCode, fetched]; exact ran
    rw [eq]
    exact (runCode_keeps hrun).1.sound (woken w)

/-- Settles O16: the CPU's step keeps the form of memory, and what follows it leaves memory alone. -/
theorem stepKeepsMemoryCanonical : Obligations.StepKeepsMemoryCanonical := by
  intro s t hwf hun h
  obtain ⟨r, hr, rfl⟩ := step_next h
  rw [(afterStep_aside r.2 r.1).mem]
  exact cpuStep_sound hr ⟨hwf, hun⟩

end Sys2Proof.Claims
end

section
/-! Memory as bytes at places: which addresses share a place, what a byte write changes, and accesses composed of bytes (20 R203 to R213,
R220, R221, R240). -/

namespace Sys2Proof.Claims

open Sys2Proof.Machine

/-! ### Aligned addresses -/

theorem toNat_align4 (a : Word) : (align4 a).toNat = a.toNat - a.toNat % 4 := by
  have h : align4 a = (a >>> 2) <<< 2 := by
    unfold align4
    ext i hi
    have := hi
    interval_cases i <;> simp
  rw [h, BitVec.toNat_shiftLeft, BitVec.toNat_ushiftRight, Nat.shiftLeft_eq, Nat.shiftRight_eq_div_pow]
  omega

theorem toNat_mod_of_aligned {thumb : Bool} {a : Word} (h : Aligned thumb a) :
    a.toNat % 2 ^ (if thumb then 1 else 2) = 0 := by
  have hv := congrArg BitVec.toNat h
  rwa [BitVec.toNat_setWidth] at hv

theorem align4_of_aligned {a : Word} (h : Aligned false a) : align4 a = a :=
  BitVec.eq_of_toNat_eq (by
    have hmod : a.toNat % 4 = 0 := toNat_mod_of_aligned h
    rw [toNat_align4, hmod, Nat.sub_zero])

theorem align2_of_aligned {a : Word} (h : Aligned true a) : align2 a = a :=
  BitVec.eq_of_toNat_eq (by
    have hmod : a.toNat % 2 = 0 := toNat_mod_of_aligned h
    rw [toNat_align2, hmod, Nat.sub_zero])

/-- Alignment stays in the region: it clears no bit of the top byte. -/
theorem regionOf_alignTo (a : Word) (w : Width) : regionOf (alignTo w a) = regionOf a := by
  have top (m : Word) (hm : m.extractLsb' 24 8 = BitVec.allOnes 8) : regionOf (a &&& m) = regionOf a := by
    unfold regionOf
    rw [BitVec.extractLsb'_and, hm, BitVec.and_allOnes]
  cases w with
  | b1 => rfl
  | b2 => exact top _ (by decide)
  | b4 => exact top _ (by decide)

/-! ### Reads as bytes (20 R210, R211) -/

theorem memRead_byte {s : State} {a : Word} (h : regionOf a ≠ .unmapped) : s.memRead a .b1 = zext (s.read8 a) := if_neg h

theorem memRead_half {s : State} {a : Word} (h : regionOf a ≠ .unmapped) :
    s.memRead a .b2 = zext (s.read8 (align2 a + 1) ++ s.read8 (align2 a)) := if_neg h

theorem memRead_word {s : State} {a : Word} (h : regionOf a ≠ .unmapped) :
    s.memRead a .b4 =
      s.read8 (align4 a + 3) ++ s.read8 (align4 a + 2) ++ s.read8 (align4 a + 1) ++ s.read8 (align4 a) := if_neg h

/-- A read of top byte 0x01 is one value of the parameter (20 R203, R240). -/
theorem memRead_unmapped_byte {s : State} {a : Word} (h : regionOf a = .unmapped) :
    s.memRead a .b1 = zext ((s.unmappedValue a .b1).extractLsb' 0 8) := if_pos h

theorem memRead_unmapped_half {s : State} {a : Word} (h : regionOf a = .unmapped) :
    s.memRead a .b2 = zext ((s.unmappedValue (align2 a) .b2).extractLsb' 0 16) := if_pos h

theorem memRead_unmapped_word {s : State} {a : Word} (h : regionOf a = .unmapped) :
    s.memRead a .b4 = s.unmappedValue (align4 a) .b4 := if_pos h

theorem extractLsb'_zext (x : Half) : (zext x).extractLsb' 0 16 = x := by
  rw [zext, ← BitVec.setWidth_eq_extractLsb' (by decide), BitVec.setWidth_setWidth_of_le _ (by decide), BitVec.setWidth_eq]

/-- Settles O9: at an aligned PC, alignment changes nothing. -/
theorem fetchReadsBytesAtPc : Obligations.FetchReadsBytesAtPc := by
  intro s hp
  rw [pcAligned_iff] at hp
  have arm (ht : s.cpsr.t = false) : fetch s = .arm (s.memRead s.pc .b4) ∧ align4 s.pc = s.pc := by
    rw [ht] at hp
    exact ⟨by rw [fetch, ht]; rfl, align4_of_aligned hp⟩
  have thumb (ht : s.cpsr.t = true) :
      fetch s = .thumb ((s.memRead s.pc .b2).extractLsb' 0 16) ∧ align2 s.pc = s.pc := by
    rw [ht] at hp
    exact ⟨by rw [fetch, ht]; rfl, align2_of_aligned hp⟩
  refine ⟨fun hr ht => ?_, fun hr ht => ?_, fun hr ht => ?_, fun hr ht => ?_⟩
  · obtain ⟨hf, ha⟩ := arm ht
    rw [hf, memRead_word hr, ha]
  · obtain ⟨hf, ha⟩ := thumb ht
    rw [hf, memRead_half hr, ha, extractLsb'_zext]
  · obtain ⟨hf, ha⟩ := arm ht
    rw [hf, memRead_unmapped_word hr, ha]
  · obtain ⟨hf, ha⟩ := thumb ht
    rw [hf, memRead_unmapped_half hr, ha, extractLsb'_zext, BitVec.setWidth_eq_extractLsb' (by decide)]

/-! ### Places (20 R201, R204, R214) -/

/-- Where a byte address leads, in each of the cases of the decoding (20 R220). -/
inductive Located (s : State) (a : Word) : Prop where
  | bios (place : s.place a = .bios (offsetOf a)) (region : regionOf a = .bios)
  | unmapped (place : s.place a = .unmapped) (region : regionOf a = .unmapped)
  | device (d : DevReg) (lane1 : Bool) (place : s.place a = .dev d lane1) (mapped : regionOf a ≠ .unmapped)
  | storage (place : s.place a = .ram ((regionOf a).base + offsetOf a)) (mapped : regionOf a ≠ .unmapped)
      (internal : regionOf a ≠ .cartridge)
  | sram (place : s.place a = .ram (sramBase + (a &&& 0xFFFF).toNat)) (region : regionOf a = .cartridge)
  | rom (place : s.place a = .rom (a &&& 0x01FFFFFF).toNat) (region : regionOf a = .cartridge)
  | void (place : s.place a = .void) (region : regionOf a = .cartridge)
  | external (place : s.place a = .external a) (region : regionOf a = .cartridge)

theorem Located.of_storagePlace {s : State} {a : Word} (h : s.place a = storagePlace (regionOf a) (offsetOf a))
    (hu : regionOf a ≠ .unmapped) (hc : regionOf a ≠ .cartridge) : Located s a := by
  unfold storagePlace at h
  split at h
  case h_1 d _ => exact .device d _ h hu
  case h_2 => exact .storage h hu hc

/-- Every address leads to one of them (20 R201, R214, R230). -/
theorem located (s : State) (a : Word) : Located s a := by
  have h : s.place a = placeOf s.cart.collaborator.isSome a := rfl
  unfold placeOf at h
  split at h
  case h_1 hr => exact .bios h hr
  case h_2 hr => exact .unmapped h hr
  case h_3 hr =>
    unfold cartPlace at h
    split at h
    · exact .external h hr
    · split at h
      · exact .rom h hr
      · split at h
        · exact .sram h hr
        · exact .void h hr
  all_goals
    next hr => exact .of_storagePlace (by rw [hr]; exact h) (by rw [hr]; decide) (by rw [hr]; decide)

/-- A byte of memory that a store can change: its key is its region's base and its offset, or it is one of SRAM. -/
theorem key_of_place_ram {s : State} {a : Word} {key : Nat} (h : s.place a = .ram key) :
    (key = (regionOf a).base + offsetOf a ∧ regionOf a ≠ .unmapped ∧ regionOf a ≠ .cartridge) ∨
      (key = sramBase + (a &&& 0xFFFF).toNat ∧ regionOf a = .cartridge) := by
  cases located s a with
  | storage hp hu hc => exact .inl ⟨Place.ram.inj (h.symm.trans hp), hu, hc⟩
  | sram hp hr => exact .inr ⟨Place.ram.inj (h.symm.trans hp), hr⟩
  | bios hp | unmapped hp | device _ _ hp | rom hp | void hp | external hp => cases h.symm.trans hp

theorem regionOf_ne_unmapped_of_place_ram {s : State} {a : Word} {key : Nat} (h : s.place a = .ram key) :
    regionOf a ≠ .unmapped := by
  obtain ⟨-, hu, -⟩ | ⟨-, hr⟩ := key_of_place_ram h
  · exact hu
  · rw [hr]; decide

theorem offsetOf_lt (a : Word) : offsetOf a < (regionOf a).size := Nat.mod_lt _ (by cases regionOf a <;> decide)

theorem region_end_le {r : Region} (hc : r ≠ .cartridge) : r.base + r.size ≤ Region.cartridge.base := by
  cases r with
  | cartridge => exact absurd rfl hc
  | _ => decide

theorem four_dvd_region {r : Region} (hu : r ≠ .unmapped) (hc : r ≠ .cartridge) : 4 ∣ r.size ∧ 4 ∣ r.base := by
  cases r with
  | unmapped => exact absurd rfl hu
  | cartridge => exact absurd rfl hc
  | _ => decide

/-- No store reaches the bytes of the ROM. -/
theorem ram_key_ne_rom_key {s : State} {a c : Word} {key idx : Nat} (h : s.place a = .ram key) (hc : s.place c = .rom idx) :
    Region.cartridge.base + idx ≠ key := by
  have hrom : idx < 0x02000000 := by
    cases located s c with
    | rom hp =>
      rw [Place.rom.inj (hc.symm.trans hp), BitVec.toNat_and]
      exact Nat.lt_of_le_of_lt Nat.and_le_right (by decide)
    | bios hp | unmapped hp | device _ _ hp | storage hp | sram hp | void hp | external hp => cases hc.symm.trans hp
  have hbase : Region.cartridge.base = 0x08000000 := rfl
  have hsram : sramBase = 0x0E000000 := rfl
  obtain ⟨hk, -, hc⟩ | ⟨hk, -⟩ := key_of_place_ram h
  · have hoff := offsetOf_lt a
    have hend := region_end_le hc
    omega
  · omega

/-- A key has the two low bits of its addresses: every base and every size is a multiple of 4. -/
theorem ram_key_mod_four {s : State} {a : Word} {key : Nat} (h : s.place a = .ram key) : key % 4 = a.toNat % 4 := by
  obtain ⟨hk, hu, hc⟩ | ⟨hk, -⟩ := key_of_place_ram h
  · obtain ⟨hsize, hbase⟩ := four_dvd_region hu hc
    have hoff : offsetOf a % 4 = a.toNat % 4 := by
      unfold offsetOf
      rw [BitVec.extractLsb'_toNat, Nat.mod_mod_of_dvd _ hsize]
      simp
    omega
  · have hmask : (a &&& 0xFFFF).toNat = a.toNat % 2 ^ 16 := by
      rw [BitVec.toNat_and]
      exact Nat.and_two_pow_sub_one_eq_mod a.toNat 16
    have hsram : sramBase = 0x0E000000 := rfl
    omega

/-- Addresses of one region and offset are mirrors (20 R204). -/
theorem place_eq_of_offsetOf_eq (s : State) {a b : Word} (hr : regionOf a = regionOf b) (hc : regionOf a ≠ .cartridge)
    (ho : offsetOf a = offsetOf b) : s.place a = s.place b := by
  unfold State.place placeOf
  rw [hr] at hc ⊢
  rw [ho]
  split
  case h_3 hb => exact absurd hb hc
  all_goals rfl

/-! ### A byte write -/

theorem read8_eq_of_place_eq {s : State} {a b : Word} (h : s.place a = s.place b) (hu : regionOf a ≠ .unmapped) :
    s.read8 a = s.read8 b := by
  have hp : s.place b ≠ .unmapped := by
    intro hp
    cases located s a with
    | unmapped _ hr => exact hu hr
    | bios ha | device _ _ ha | storage ha | sram ha | rom ha | void ha | external ha => cases hp.symm.trans (h.symm.trans ha)
  unfold State.read8
  rw [h]
  split
  case h_2 hb => exact absurd hb hp
  all_goals rfl

theorem write8_eq_of_place_eq {s : State} {a b : Word} (h : s.place a = s.place b) (x : Byte) :
    s.write8 a x = s.write8 b x := by
  unfold State.write8
  rw [h]

/-- 20 R203, R205. -/
theorem write8_readOnly {s : State} {a : Word} (h : regionOf a = .bios ∨ regionOf a = .unmapped) (x : Byte) :
    s.write8 a x = s := by
  have hp : s.place a = .bios (offsetOf a) ∨ s.place a = .unmapped := by
    unfold State.place placeOf
    obtain h | h := h <;> rw [h]
    · exact .inl rfl
    · exact .inr rfl
  unfold State.write8
  obtain hp | hp := hp <;> rw [hp]

@[simp] theorem place_write8 (s : State) (a c : Word) (x : Byte) : (s.write8 a x).place c = s.place c :=
  State.place_congr (State.write8_only s a x).external c

/-- What the other lane is taken as is what a write leaves there as it was (20 R233). -/
theorem regAfterWrite_otherLane (s : State) (r : DevReg) : regAfterWrite r (s.devRead r) (s.otherLane r) = s.devRead r := by
  cases r with
  | dispcnt | vcount | shadow | bgcnt => rfl
  | dispstat =>
    refine BitVec.eq_of_getLsbD_eq fun i hi => ?_
    simp only [regAfterWrite, State.otherLane, reduceCtorEq, if_false, State.devRead, DispStat.toHalf, BitVec.getLsbD_or,
      BitVec.getLsbD_and, BitVec.getLsbD_append, BitVec.getLsbD_ofBool]
    interval_cases i <;> simp
  | bghofs | bgvofs | ie | ime =>
    refine BitVec.eq_of_getLsbD_eq fun i hi => ?_
    simp only [regAfterWrite, State.otherLane, reduceCtorEq, if_false, State.devRead, BitVec.getLsbD_and,
      BitVec.getLsbD_setWidth]
    interval_cases i <;> simp
  | iff =>
    have h : ~~~(0 : Half) = BitVec.allOnes 16 := by decide
    exact (congrArg (s.devRead .iff &&& ·) h).trans BitVec.and_allOnes

/-- Every write rule works bit by bit. -/
theorem getLsbD_regAfterWrite_congr (r : DevReg) (old : Half) {v v' : Half} {i : Nat} (h : v.getLsbD i = v'.getLsbD i) :
    (regAfterWrite r old v).getLsbD i = (regAfterWrite r old v').getLsbD i := by
  cases r <;> simp [regAfterWrite, h]

theorem getLsbD_laneOf (x : Half) (lane1 : Bool) {i : Nat} (hi : i < 8) :
    (laneOf x lane1).getLsbD i = x.getLsbD ((if lane1 then 8 else 0) + i) := by
  cases lane1 <;> simp [laneOf, hi]

theorem laneOf_withLane_other (other : Half) (lane1 : Bool) (b : Byte) :
    laneOf (withLane other lane1 b) (!lane1) = laneOf other (!lane1) := by
  cases lane1 with
  | false => exact BitVec.extractLsb'_append_eq_left
  | true => exact BitVec.extractLsb'_append_eq_right

/-- The lane not written is as the write of the other value leaves it. -/
theorem laneOf_regAfterWrite_withLane (r : DevReg) (old other : Half) (lane1 : Bool) (b : Byte) :
    laneOf (regAfterWrite r old (withLane other lane1 b)) (!lane1) = laneOf (regAfterWrite r old other) (!lane1) := by
  refine BitVec.eq_of_getLsbD_eq fun i hi => ?_
  have h := congrArg (·.getLsbD i) (laneOf_withLane_other other lane1 b)
  simp only [getLsbD_laneOf _ _ hi] at h ⊢
  exact getLsbD_regAfterWrite_congr r old h

/-- A byte write to a register's lane is read in no other lane of any register. -/
theorem laneOf_devRead_devWriteByte_ne (s : State) {r r' : DevReg} {lane1 lane1' : Bool} (h : ¬(r' = r ∧ lane1' = lane1))
    (b : Byte) : laneOf ((s.devWriteByte r lane1 b).devRead r') lane1' = laneOf (s.devRead r') lane1' := by
  by_cases hr : r' = r
  · subst hr
    obtain rfl : lane1' = !lane1 := Bool.eq_not.mpr fun hl => h ⟨rfl, hl⟩
    rw [State.devWriteByte, devRead_devWrite_self, laneOf_regAfterWrite_withLane, regAfterWrite_otherLane]
  · rw [State.devWriteByte, devRead_devWrite_ne s hr]

theorem write8_ram {s : State} {a : Word} {key : Nat} (h : s.place a = .ram key) (x : Byte) :
    s.write8 a x = s.setMem (Memory.set s.mem key x) := by
  unfold State.write8
  rw [h]

/-- A byte that is in another place reads as before; a collaborator of its own knows all its bytes (20 R204, R214). -/
theorem read8_write8_of_not_samePlace {s : State} {a c : Word} (h : ¬SamePlace s c a) (x : Byte) :
    (s.write8 a x).read8 c = s.read8 c := by
  obtain ⟨hne, hext⟩ := not_or.mp h
  cases located s a with
  | bios _ hr => rw [write8_readOnly (.inl hr)]
  | unmapped _ hr => rw [write8_readOnly (.inr hr)]
  | rom hp | void hp => unfold State.write8; rw [hp]
  | device d lane1 hp =>
    obtain ⟨hmem, hcart⟩ := devWriteByte_mem s d lane1 x
    have hparams := (State.write8_only s a x).params
    unfold State.read8 State.unmappedValue State.romByte
    rw [place_write8]
    rw [write8_dev hp] at hparams ⊢
    rw [hmem, hcart, hparams]
    split
    case h_3 d' lane1' hc => exact laneOf_devRead_devWriteByte_ne s (by rintro ⟨rfl, rfl⟩; exact hne (hc.trans hp.symm)) x
    all_goals rfl
  | storage hp | sram hp =>
    unfold State.read8
    rw [place_write8, write8_ram hp]
    split
    case h_4 key hc => exact (Memory.get_set _ _ _ _).trans (if_neg (by rintro rfl; exact hne (hc.trans hp.symm)))
    case h_5 idx hc =>
      unfold State.romByte
      rw [State.setMem_mem, Memory.get_set, if_neg (ram_key_ne_rom_key hp hc)]
      rfl
    all_goals rfl
  | external hp =>
    unfold State.read8
    rw [place_write8]
    unfold State.write8
    rw [hp]
    split
    case h_7 y hc => exact absurd ⟨y, a, hc, hp⟩ hext
    all_goals rfl

/-- A byte written to memory reads back in its place and in no other. -/
theorem read8_write8_ram {s : State} {a c : Word} {key : Nat} (h : s.place a = .ram key) (x : Byte) :
    (s.write8 a x).read8 c = if s.place c = .ram key then x else s.read8 c := by
  split
  case isTrue hc =>
    unfold State.read8
    rw [place_write8, hc, write8_ram h]
    exact (Memory.get_set _ _ _ _).trans (if_pos rfl)
  case isFalse hc =>
    refine read8_write8_of_not_samePlace ?_ x
    rintro (hs | ⟨_, _, _, ha⟩)
    · exact hc (hs.trans h)
    · cases h.symm.trans ha

/-! ### Accesses (20 R210, R211) -/

theorem byteOf_eq (v : Word) (k : Nat) : byteOf v k = (v >>> (8 * k)).setWidth 8 :=
  BitVec.setWidth_ushiftRight_eq_extractLsb.symm

theorem byteOf_append_word (v : Word) : byteOf v 3 ++ byteOf v 2 ++ byteOf v 1 ++ byteOf v 0 = v := by
  refine BitVec.eq_of_getLsbD_eq fun i hi => ?_
  simp only [byteOf, BitVec.getLsbD_append, BitVec.getLsbD_extractLsb']
  interval_cases i <;> simp

theorem toNat_append_byte {n : Nat} (x : BitVec n) (b : Byte) : (x ++ b).toNat = x.toNat * 256 + b.toNat := by
  rw [BitVec.toNat_append, ← Nat.shiftLeft_add_eq_or_of_lt b.isLt, Nat.shiftLeft_eq]

theorem accessBytes_half (a : Word) : accessBytes a .b2 = [align2 a, align2 a + 1] := rfl

theorem accessBytes_word (a : Word) : accessBytes a .b4 = [align4 a, align4 a + 1, align4 a + 2, align4 a + 3] := rfl

/-- A little-endian sum by its lowest byte first. -/
theorem sum_littleEndian_cons {α : Type} (f : α → Nat) (c : α) (cs : List α) :
    ((c :: cs).zipIdx.map fun e => f e.1 * 2 ^ (8 * e.2)).sum =
      f c + 256 * (cs.zipIdx.map fun e => f e.1 * 2 ^ (8 * e.2)).sum := by
  rw [List.zipIdx_cons, List.zipIdx_succ, List.map_cons, List.sum_cons, List.map_map, ← List.sum_map_mul_left]
  congr 3
  · simp
  · funext e
    simp only [Function.comp, Nat.mul_add, Nat.pow_add]
    ring

/-- A read of a mapped region is the sum of its bytes, the lowest address least significant. -/
theorem toNat_memRead {s : State} {a : Word} (h : regionOf a ≠ .unmapped) (w : Width) :
    (s.memRead a w).toNat = ((accessBytes a w).zipIdx.map fun e => (s.read8 e.1).toNat * 2 ^ (8 * e.2)).sum := by
  have horner := sum_littleEndian_cons fun c => (s.read8 c).toNat
  cases w with
  | b1 =>
    rw [memRead_byte h, zext, BitVec.toNat_setWidth_of_le (by decide), accessBytes, horner]
    rfl
  | b2 =>
    rw [memRead_half h, zext, BitVec.toNat_setWidth_of_le (by decide), toNat_append_byte, accessBytes_half, horner, horner,
      List.zipIdx_nil, List.map_nil, List.sum_nil]
    omega
  | b4 =>
    rw [memRead_word h, toNat_append_byte, toNat_append_byte, toNat_append_byte, accessBytes_word, horner, horner, horner, horner,
      List.zipIdx_nil, List.map_nil, List.sum_nil]
    omega

theorem zext_extractLsb'_low (v : Word) (n : Nat) : zext (v.extractLsb' 0 n) = v &&& BitVec.ofNat 32 (2 ^ n - 1) := by
  refine BitVec.eq_of_getLsbD_eq fun i hi => ?_
  rw [zext, BitVec.getLsbD_setWidth, BitVec.getLsbD_extractLsb', BitVec.getLsbD_and, BitVec.getLsbD_ofNat,
    Nat.testBit_two_pow_sub_one]
  simp [hi, Bool.and_comm]

/-- All bytes of an access are bytes of memory that a store can change. -/
def InRam (s : State) (a : Word) (w : Width) : Prop := ∀ c, c ∈ accessBytes a w → ∃ key, s.place c = .ram key

theorem InRam.mapped {s : State} {a : Word} {w : Width} (h : InRam s a w) : regionOf a ≠ .unmapped := by
  have hfirst : alignTo w a ∈ accessBytes a w := by cases w <;> exact List.mem_cons_self
  obtain ⟨key, hp⟩ := h _ hfirst
  rw [← regionOf_alignTo a w]
  exact regionOf_ne_unmapped_of_place_ram hp

theorem mem_accessBytes_half (a : Word) {k : Nat} (hk : k < 2) : align2 a + BitVec.ofNat 32 k ∈ accessBytes a .b2 := by
  rw [accessBytes_half]
  interval_cases k <;> simp

theorem mem_accessBytes_word (a : Word) {k : Nat} (hk : k < 4) : align4 a + BitVec.ofNat 32 k ∈ accessBytes a .b4 := by
  rw [accessBytes_word]
  interval_cases k <;> simp

/-- Of four bytes in a row, a write to one is read in that one alone: their keys differ in the two low bits. -/
theorem read8_write8_add {s : State} {b : Word} {j k : Nat} (hj : j < 4) (hk : k < 4)
    (h : ∃ key, s.place (b + BitVec.ofNat 32 j) = .ram key) (x : Byte) :
    (s.write8 (b + BitVec.ofNat 32 j) x).read8 (b + BitVec.ofNat 32 k) =
      if k = j then x else s.read8 (b + BitVec.ofNat 32 k) := by
  obtain ⟨key, hp⟩ := h
  rw [read8_write8_ram hp]
  by_cases hkj : k = j
  · rw [hkj, if_pos hp, if_pos rfl]
  · have hne : s.place (b + BitVec.ofNat 32 k) ≠ .ram key := by
      intro hc
      have hlow := (ram_key_mod_four hc).symm.trans (ram_key_mod_four hp)
      rw [BitVec.toNat_add, BitVec.toNat_add, BitVec.toNat_ofNat, BitVec.toNat_ofNat] at hlow
      omega
    rw [if_neg hne, if_neg hkj]

theorem read8_memWrite_half {s : State} {a : Word} (h : InRam s a .b2) (v : Word) {k : Nat} (hk : k < 2) :
    (s.memWrite a .b2 v).read8 (align2 a + BitVec.ofNat 32 k) = byteOf v k := by
  have ram (j : Nat) (hj : j < 2) := h _ (mem_accessBytes_half a hj)
  have stores : s.memWrite a .b2 v =
      (s.write8 (align2 a + BitVec.ofNat 32 0) (byteOf v 0)).write8 (align2 a + BitVec.ofNat 32 1) (byteOf v 1) := by
    rw [BitVec.add_zero]; rfl
  rw [stores, read8_write8_add (by decide) (by omega) (by simpa using ram 1 (by decide)),
    read8_write8_add (by decide) (by omega) (ram 0 (by decide))]
  interval_cases k <;> rfl

theorem read8_memWrite_word {s : State} {a : Word} (h : InRam s a .b4) (v : Word) {k : Nat} (hk : k < 4) :
    (s.memWrite a .b4 v).read8 (align4 a + BitVec.ofNat 32 k) = byteOf v k := by
  have ram (j : Nat) (hj : j < 4) := h _ (mem_accessBytes_word a hj)
  have stores : s.memWrite a .b4 v =
      (((s.write8 (align4 a + BitVec.ofNat 32 0) (byteOf v 0)).write8 (align4 a + BitVec.ofNat 32 1) (byteOf v 1)).write8
        (align4 a + BitVec.ofNat 32 2) (byteOf v 2)).write8 (align4 a + BitVec.ofNat 32 3) (byteOf v 3) := by
    rw [BitVec.add_zero]; rfl
  rw [stores, read8_write8_add (by decide) hk (by simpa using ram 3 (by decide)),
    read8_write8_add (by decide) hk (by simpa using ram 2 (by decide)),
    read8_write8_add (by decide) hk (by simpa using ram 1 (by decide)), read8_write8_add (by decide) hk (ram 0 (by decide))]
  interval_cases k <;> rfl

theorem memRead_memWrite_half {s : State} {a : Word} (h : InRam s a .b2) (v : Word) :
    (s.memWrite a .b2 v).memRead a .b2 = v &&& 0xFFFF := by
  have hlo := read8_memWrite_half h v (k := 0) (by decide)
  have hhi : (s.memWrite a .b2 v).read8 (align2 a + 1) = byteOf v 1 := read8_memWrite_half h v (by decide)
  rw [BitVec.add_zero] at hlo
  rw [memRead_half h.mapped, hlo, hhi, byteOf_append, BitVec.setWidth_eq_extractLsb' (by decide), zext_extractLsb'_low]
  rfl

theorem memRead_memWrite_word {s : State} {a : Word} (h : InRam s a .b4) (v : Word) :
    (s.memWrite a .b4 v).memRead a .b4 = v := by
  have h0 := read8_memWrite_word h v (k := 0) (by decide)
  have h1 : (s.memWrite a .b4 v).read8 (align4 a + 1) = byteOf v 1 := read8_memWrite_word h v (by decide)
  have h2 : (s.memWrite a .b4 v).read8 (align4 a + 2) = byteOf v 2 := read8_memWrite_word h v (by decide)
  have h3 : (s.memWrite a .b4 v).read8 (align4 a + 3) = byteOf v 3 := read8_memWrite_word h v (by decide)
  rw [BitVec.add_zero] at h0
  rw [memRead_word h.mapped, h3, h2, h1, h0, byteOf_append_word]

/-- Settles O57: mirrors share a place; the other clauses are the rules above. -/
theorem memoryComposition : Obligations.MemoryComposition := by
  intro s a b v x
  refine ⟨fun hr hu hc ho => ?_, fun h => write8_readOnly h x, fun key h => ?_, fun h => ⟨memRead_memWrite_word h v, fun k hk => ?_⟩,
    fun h => memRead_memWrite_half h v, fun h => ⟨?_, ?_, memRead_unmapped_word h⟩, toNat_memRead⟩
  · have hoff : offsetOf a = offsetOf b := by
      simpa [offsetOf, ← hr, BitVec.extractLsb'_toNat] using ho
    have hp := place_eq_of_offsetOf_eq s hr hc hoff
    exact ⟨read8_eq_of_place_eq hp hu, write8_eq_of_place_eq hp x⟩
  · exact ⟨(read8_write8_ram h x).trans (if_pos h), fun c hc => (read8_write8_ram h x).trans (if_neg hc)⟩
  · rw [← byteOf_eq]
    exact read8_memWrite_word h v hk
  · rw [memRead_unmapped_byte h, zext_extractLsb'_low]; rfl
  · rw [memRead_unmapped_half h, zext_extractLsb'_low]; rfl

end Sys2Proof.Claims
end

section
/-! The frame of the instructions that store: every byte outside those that the tables of the claims give them reads as before (20 R204,
R211; 42 R503, R532; 45 R720). -/

namespace Sys2Proof.Claims

open Sys2Proof.Machine

/-! ### Stores at given bytes -/

/-- From `s`, only bytes at the places of `bs` may read otherwise. -/
structure Wrote (bs : List Word) (s t : State) : Prop where
  external : t.cart.collaborator.isSome = s.cart.collaborator.isSome
  bytes : ∀ a, (∀ b, b ∈ bs → ¬SamePlace s a b) → t.read8 a = s.read8 a

theorem samePlace_congr {s t : State} (h : t.cart.collaborator.isSome = s.cart.collaborator.isSome) (a b : Word) :
    SamePlace t a b ↔ SamePlace s a b := by
  unfold SamePlace
  rw [State.place_congr h a, State.place_congr h b]

/-- The bytes of a block, its first word apart. -/
theorem blockBytesAt_succ (a : Word) (n : Nat) :
    blockBytesAt a (n + 1) = accessBytes a .b4 ++ blockBytesAt (a + 4) n := by
  have hnext (k : Nat) : a + BitVec.ofNat 32 (4 * (k + 1)) = a + 4 + BitVec.ofNat 32 (4 * k) := by
    rw [Nat.mul_succ, Nat.add_comm, BitVec.ofNat_add, BitVec.add_assoc]
    rfl
  unfold blockBytesAt
  rw [List.range_succ_eq_map, List.flatMap_cons, List.flatMap_map, Nat.mul_zero, BitVec.add_zero]
  simp only [Nat.succ_eq_add_one, hnext]

theorem offset2_eq (s : State) (off : Offset) : offset2 s off = offsetValue s off := by
  cases off with
  | imm v => rfl
  | reg n sh rm => exact congrArg Prod.fst (operand2_rsi s n sh rm)

theorem firstAddr_eq (p u : Bool) (base : Word) (n : Nat) : firstAddr p u base n = blockFirst p u base n := by
  cases p <;> cases u <;> rfl

theorem regThumb_sp (s : State) : s.regThumb 13 = reg s 13 :=
  (State.regOf_gen s 4 (bank_sp _)).trans (State.regOf_gen s 0 (bank_sp _)).symm

theorem zext_append_two_zeros {n : Nat} (off : BitVec n) : zext (off ++ 0b00#2) = off.setWidth 32 * 4 := by
  apply BitVec.eq_of_toNat_eq
  rw [zext, BitVec.toNat_setWidth, BitVec.toNat_mul, BitVec.toNat_setWidth, BitVec.toNat_append, Nat.shiftLeft_eq]
  simp

namespace Wrote

variable {bs cs : List Word} {s t u : State}

theorem refl (bs : List Word) (s : State) : Wrote bs s s := ⟨rfl, fun _ _ => rfl⟩

theorem trans (h : Wrote bs s t) (k : Wrote cs t u) : Wrote (bs ++ cs) s u := by
  refine ⟨k.external.trans h.external, fun a ha => ?_⟩
  have hcs : ∀ b, b ∈ cs → ¬SamePlace t a b := fun b hb hs =>
    ha b (List.mem_append_right _ hb) ((samePlace_congr h.external a b).mp hs)
  exact (k.bytes a hcs).trans (h.bytes a fun b hb => ha b (List.mem_append_left _ hb))

/-- What follows the stores and touches no memory, device or cartridge. -/
theorem andThen (h : Wrote bs s t) (k : SameUnits u t) (hq : u.params = t.params) : Wrote bs s u := by
  obtain ⟨hmem, hic, hppu, hcart⟩ := k
  exact ⟨by rw [hcart]; exact h.external, fun a ha => (State.read8_congr hmem hic hppu hcart hq a).trans (h.bytes a ha)⟩

theorem advancePc (h : Wrote bs s t) (v : Word) : Wrote bs s (t.advancePc v) := h.andThen ⟨rfl, rfl, rfl, rfl⟩ rfl

theorem setGreg (h : Wrote bs s t) (g : GReg) (v : Word) : Wrote bs s (t.setGreg g v) := h.andThen ⟨rfl, rfl, rfl, rfl⟩ rfl

theorem drawn (h : Wrote bs s t) : Wrote bs s t.drawn := h.andThen ⟨rfl, rfl, rfl, rfl⟩ rfl

theorem setReg (h : Wrote bs s t) (n : Reg) (v : Word) : Wrote bs s (t.setReg n v) := by
  unfold State.setReg State.setRegOf
  split
  case h_1 => exact h.setGreg _ v
  case h_2 => exact h

theorem ite {c : Prop} [Decidable c] (ht : Wrote bs s t) (hu : Wrote bs s u) : Wrote bs s (if c then t else u) := by
  split
  · exact ht
  · exact hu

theorem armIf {c : Cond} {o : Host.Outcome State Fault Refusal} (h : Ends (Wrote bs s) o) : Ends (Wrote bs s) (armIf c s o) :=
  Ends.ite (fun _ => h) fun _ => Ends.next ((refl bs s).advancePc 4)

theorem write8 (s : State) (a : Word) (x : Byte) : Wrote [a] s (s.write8 a x) :=
  ⟨(State.write8_only s a x).external, fun _ h => read8_write8_of_not_samePlace (h a List.mem_cons_self) x⟩

theorem memWrite (s : State) (a : Word) (w : Width) (v : Word) : Wrote (accessBytes a w) s (s.memWrite a w v) := by
  cases w with
  | b1 => exact write8 s a _
  | b2 => exact (write8 s _ _).trans (write8 _ _ _)
  | b4 => exact (((write8 s _ _).trans (write8 _ _ _)).trans (write8 _ _ _)).trans (write8 _ _ _)

theorem storeWords (vs : List Word) (s : State) (a : Word) : Wrote (blockBytesAt a vs.length) s (s.storeWords a vs) := by
  induction vs generalizing s a with
  | nil => exact refl _ s
  | cons v rest ih =>
    rw [List.length_cons, blockBytesAt_succ]
    exact (memWrite s a .b4 v).trans (ih _ _)

theorem writeBack (h : Wrote bs s t) (wb : Bool) (rn : Reg) (v : Word) : Wrote bs s (writeBack t wb rn v) :=
  ite (h.setReg rn v) h

theorem storeSingle (byte p u w : Bool) (rn rd : Reg) (off : Offset) (s : State) :
    Ends (Wrote (accessBytes (addrOf s p u rn (offset2 s off)) (if byte then .b1 else .b4)) s)
      (storeSingle byte p u w rn rd off s) := by
  rw [offset2_eq]
  unfold Machine.storeSingle
  cases storeFault byte (writesBack p w) rn rd off with
  | some f => exact Ends.fault
  | none =>
    have hw := memWrite s (accessAddr s p u rn (offsetValue s off)) (if byte then .b1 else .b4)
      (storeValue s (writesBack p w) rn rd)
    exact Ends.next ((writeBack (ite hw.drawn hw) _ _ _).advancePc 4)

theorem storeHalf (p u w : Bool) (rn rd : Reg) (off : HalfOffset) (s : State) :
    Ends (Wrote (accessBytes (addrOf s p u rn (halfOffset2 s off)) .b2) s) (storeHalf p u w rn rd off s) := by
  rw [halfOffset2_eq]
  unfold Machine.storeHalf
  dsimp only
  cases halfFault false p w rn rd off ((accessAddr s p u rn (halfOffsetValue s off)).getLsbD 0) with
  | some f => exact Ends.fault
  | none =>
    have hw := memWrite s (accessAddr s p u rn (halfOffsetValue s off)) .b2 (storeValue s (writesBack p w) rn rd)
    exact Ends.next ((writeBack (ite hw.drawn hw) _ _ _).advancePc 4)

theorem swap (byte : Bool) (rn rd rm : Reg) (s : State) :
    Ends (Wrote (accessBytes (s.regArm rn) (if byte then .b1 else .b4)) s) (swap byte rn rd rm s) := by
  unfold Machine.swap
  cases swapFault rn rd rm with
  | some f => exact Ends.fault
  | none => exact Ends.next (((memWrite s _ _ _).setReg rd _).advancePc 4)

theorem stm (p u sb w : Bool) (rn : Reg) (list : BitVec 16) (s : State) :
    Ends (Wrote (blockBytesAt (firstAddr p u (s.regArm rn) (count list)) (count list)) s) (stm p u sb w rn list s) := by
  have hw := storeWords ((regList list).map (stmValue sb w rn list s)) s (firstAddr p u (s.regArm rn) (count list))
  rw [List.length_map] at hw
  rw [firstAddr_eq] at hw ⊢
  unfold Machine.stm
  cases stmFault sb w rn list s.cpsr.mode with
  | some f => exact Ends.fault
  | none => exact Ends.next (advancePc (ite ((ite hw.drawn hw).setReg rn _) (ite hw.drawn hw)) 4)

theorem thumbStored (a : Word) (w : Width) (v : Word) (s : State) :
    Ends (Wrote (accessBytes a w) s) (thumbStored a w v s) := Ends.next ((memWrite s a w v).advancePc 2)

theorem thumbStoreHalf (rd : LoReg) (a : Word) (s : State) :
    Ends (Wrote (accessBytes a .b2) s) (thumbStoreHalf rd a s) := Ends.ite (fun _ => Ends.fault) fun _ => thumbStored a .b2 _ s

theorem tPush (r : Bool) (list : BitVec 8) (s : State) :
    Ends (Wrote (blockBytesAt (reg s 13 - BitVec.ofNat 32 (4 * (count list + r.toNat))) (count list + r.toNat)) s)
      (execTPush r list s) := by
  have hlen : (pushWords r list s).length = count list + r.toNat := by
    cases r <;> simp [pushWords, count, inOrder, loRegList]
  have hw := storeWords (pushWords r list s) s (pushAddr r list s)
  rw [hlen, pushAddr, regThumb_sp] at hw
  refine Ends.ite (fun _ => Ends.fault) fun _ => Ends.next ((setReg ?_ 13 _).advancePc 2)
  rw [pushAddr, regThumb_sp]
  exact hw

theorem tStmia (rb : LoReg) (list : BitVec 8) (s : State) :
    Ends (Wrote (blockBytesAt (s.lo rb) (count list)) s) (execTStmia rb list s) := by
  have hw := storeWords ((loRegList list).map (stmiaValue rb list s)) s (s.lo rb)
  rw [List.length_map] at hw
  exact Ends.ite (fun _ => Ends.fault) fun _ => Ends.next (((ite hw.drawn hw).setGreg (.low rb) _).advancePc 2)

end Wrote

/-- Every instruction with a store writes the bytes that the table of the claims gives it, and no other. -/
theorem exec_wrote {i : Instr} (h : isStore i = true) (s : State) : Ends (Wrote (storedBytes i s) s) (exec i s) := by
  cases i with
  | swp | swpb => exact .armIf (.swap _ _ _ _ s)
  | strh => exact .armIf (.storeHalf _ _ _ _ _ _ s)
  | strPre | strPost | strt | strbPre | strbPost | strbt => exact .armIf (.storeSingle _ _ _ _ _ _ _ s)
  | stm => exact .armIf (.stm _ _ _ _ _ _ s)
  | tStrReg | tStrbReg | tStrbImm => exact .thumbStored _ _ _ s
  | tStrhReg => exact .thumbStoreHalf _ _ s
  | tStrImm off rb rd => rw [storedBytes, ← zext_append_two_zeros]; exact .thumbStored _ _ _ s
  | tStrhImm off rb rd => rw [storedBytes, ← zext_append_zero]; exact .thumbStoreHalf _ _ s
  | tStrSp rd word8 => rw [storedBytes, ← zext_append_two_zeros, ← regThumb_sp]; exact .thumbStored _ _ _ s
  | tPush => exact .tPush _ _ s
  | tStmia => exact .tStmia _ _ s
  | _ => cases h

/-- A store reports nothing and changes no status register. -/
theorem tables_of_isStore {i : Instr} (h : isStore i = true) :
    isCall i = false ∧ isAnomaly i = false ∧ writesSpsr i = false ∧ statusBits i = .none := by
  cases i with
  | swp | swpb | strh | strPre | strPost | strt | strbPre | strbPost | strbt | stm | tStrReg | tStrhReg | tStrbReg | tStrImm
  | tStrbImm | tStrhImm | tStrSp | tPush | tStmia => exact ⟨rfl, rfl, rfl, rfl⟩
  | _ => cases h

theorem spsr_eq_of_spsrOf_eq {s t : State} (h : ∀ e, t.spsrOf e = s.spsrOf e) : t.spsr = s.spsr := by
  refine Vector.ext fun k hk => ?_
  interval_cases k
  · exact h .fiq
  · exact h .irq
  · exact h .svc
  · exact h .abt
  · exact h .und

/-- Settles O56: the effect of the instruction, the bytes it writes, and what every instruction keeps. -/
theorem frameOfStoring : Obligations.FrameOfStoring := by
  intro i s t hstore h
  obtain ⟨hcall, hanomaly, hspsr, hstatus⟩ := tables_of_isStore hstore
  have e := exec_effect i s hcall t h
  have k := exec_keeps i s t h
  have hcpsr : StatusKept .none s t := hstatus ▸ e.status
  exact ⟨(exec_wrote hstore s t h).bytes, e.regs, hcpsr, spsr_eq_of_spsrOf_eq fun x => e.spsr x (by rw [hspsr]; rfl),
    ⟨k.line, k.lineCycle, k.hblankDone, k.frameReady, k.fb⟩, k.romLength,
    ⟨k.faulted, k.cycleCount, k.instrCount, k.params, k.pendingCycles, k.callback, k.delivered⟩, e.wait, e.log hanomaly⟩

end Sys2Proof.Claims
end

section
/-! Which row decodes a word (30 R306, R308), from what the rows test. A row is reached where each earlier row differs from it in a bit
that both test, or narrows a pattern that the word does not meet; and every word reaches a row. -/

namespace Sys2Proof

/-- The bits under a mask and what they are to be: what a row of either table tests. -/
structure Pattern (k : Nat) where
  mask : BitVec k
  val : BitVec k

namespace Pattern

variable {k : Nat}

/-- The word meets the pattern. -/
def holds (p : Pattern k) (w : BitVec k) : Bool := w &&& p.mask = p.val

/-- Some bit that both patterns test is to have two values. -/
def apart (p q : Pattern k) : Bool := p.val &&& q.mask ≠ q.val &&& p.mask

/-- `p` tests every bit that `q` tests, for the same value. -/
def narrows (p q : Pattern k) : Bool := p.mask &&& q.mask = q.mask && p.val &&& q.mask = q.val

/-- Bit `b` is `x`. -/
def ofBit (b : Nat) (x : Bool) : Pattern k := ⟨BitVec.twoPow k b, if x then BitVec.twoPow k b else 0⟩

/-- What the patterns still test of a word that `p` holds of. -/
def given (p : Pattern k) (ps : List (Pattern k)) : List (Pattern k) :=
  (ps.filter fun q => !q.apart p).map fun q => ⟨q.mask &&& ~~~p.mask, q.val &&& ~~~p.mask⟩

/-- Every word meets one of the patterns, as splitting on the given bits in turn shows. -/
def cover (bits : List Nat) (ps : List (Pattern k)) : Bool :=
  ps.any (fun q => q.mask = 0 && q.val = 0) ||
    match bits with
    | [] => false
    | b :: rest => cover rest (given (ofBit b false) ps) && cover rest (given (ofBit b true) ps)

/-- Each pattern before number `n` is apart from it or narrows one of `es`. -/
def clear (ps : List (Pattern k)) (n : Nat) (es : List (Pattern k)) : Bool :=
  (ps.take n).all fun q => ps[n]?.all fun p => q.apart p || es.any q.narrows

/-- A word that meets pattern `n` and one of `es` meets an earlier pattern, as splitting on the given bits shows. -/
def covered (bits : List Nat) (ps : List (Pattern k)) (n : Nat) (es : List (Pattern k)) : Bool :=
  es.all fun e => ps[n]?.all fun p => cover bits (given e (given p (ps.take n)))

theorem holds_iff {p : Pattern k} {w : BitVec k} : p.holds w = true ↔ w &&& p.mask = p.val := decide_eq_true_iff

theorem apart_eq_false {p q : Pattern k} {w : BitVec k} (hp : p.holds w = true) (hq : q.holds w = true) : p.apart q = false := by
  rw [holds_iff] at hp hq
  rw [apart, ← hp, ← hq, BitVec.and_assoc, BitVec.and_comm p.mask, ← BitVec.and_assoc]
  exact decide_eq_false fun h => h rfl

theorem holds_of_narrows {p q : Pattern k} {w : BitVec k} (h : p.narrows q = true) (hp : p.holds w = true) : q.holds w = true := by
  simp only [narrows, Bool.and_eq_true, decide_eq_true_eq] at h
  obtain ⟨hmask, hval⟩ := h
  rw [holds_iff] at hp ⊢
  rw [← hval, ← hp, BitVec.and_assoc, hmask]

theorem holds_ofBit (w : BitVec k) (b : Nat) : (ofBit b (w.getLsbD b)).holds w = true := by
  rw [holds_iff, ofBit, BitVec.and_twoPow]
  rfl

/-- A word that meets `p` and what is left of the patterns meets one of the patterns. -/
theorem exists_of_given {p : Pattern k} {ps : List (Pattern k)} {w : BitVec k} (hp : p.holds w = true)
    (h : ∃ q ∈ given p ps, q.holds w = true) : ∃ q ∈ ps, q.holds w = true := by
  obtain ⟨q', hmem, hq'⟩ := h
  simp only [given, List.mem_map, List.mem_filter] at hmem
  obtain ⟨q, ⟨hq, hapart⟩, rfl⟩ := hmem
  refine ⟨q, hq, holds_iff.mpr (BitVec.eq_of_getLsbD_eq fun i hi => ?_)⟩
  simp only [apart, Bool.not_eq_true', decide_eq_false_iff_not, not_not] at hapart
  rw [holds_iff] at hp hq'
  have hp := congrArg (·.getLsbD i) hp
  have hq' := congrArg (·.getLsbD i) hq'
  have hapart := congrArg (·.getLsbD i) hapart
  simp only [BitVec.getLsbD_and, BitVec.getLsbD_not, hi, decide_true, Bool.true_and] at hp hq' hapart ⊢
  cases h : p.mask.getLsbD i <;> simp_all

theorem exists_of_cover {bits : List Nat} {ps : List (Pattern k)} (h : cover bits ps = true) (w : BitVec k) :
    ∃ q ∈ ps, q.holds w = true := by
  have base (ps : List (Pattern k)) (h : ps.any (fun q => q.mask = 0 && q.val = 0) = true) : ∃ q ∈ ps, q.holds w = true := by
    obtain ⟨q, hq, h0⟩ := List.any_eq_true.mp h
    simp only [Bool.and_eq_true, decide_eq_true_eq] at h0
    exact ⟨q, hq, by rw [holds_iff, h0.1, h0.2]; exact BitVec.and_zero⟩
  induction bits generalizing ps with
  | nil => exact base ps (by simpa [cover] using h)
  | cons b rest ih =>
    rw [cover, Bool.or_eq_true, Bool.and_eq_true] at h
    obtain h | ⟨hfalse, htrue⟩ := h
    · exact base ps h
    · have hb := holds_ofBit w b
      cases hx : w.getLsbD b <;> rw [hx] at hb
      · exact exists_of_given hb (ih hfalse)
      · exact exists_of_given hb (ih htrue)

theorem not_holds_of_clear {ps : List (Pattern k)} {n : Nat} {es : List (Pattern k)} {p q : Pattern k} {w : BitVec k}
    (h : clear ps n es = true) (hn : ps[n]? = some p) (hp : p.holds w = true) (hes : ∀ e ∈ es, e.holds w = false)
    (hq : q ∈ ps.take n) : q.holds w = false := by
  by_contra hw
  rw [Bool.not_eq_false] at hw
  have h := List.all_eq_true.mp h q hq
  rw [hn, Option.all_some, apart_eq_false hw hp, Bool.false_or, List.any_eq_true] at h
  obtain ⟨e, he, hqe⟩ := h
  exact Bool.false_ne_true ((hes e he).symm.trans (holds_of_narrows hqe hw))

/-- The first entry whose pattern holds is number `n`, where those before it are cleared. -/
theorem find?_of_clear {α : Type} {f : α → Pattern k} {l : List α} {n : Nat} {es : List (Pattern k)} {a : α} {w : BitVec k}
    (hn : l[n]? = some a) (ha : w &&& (f a).mask = (f a).val) (h : clear (l.map f) n es = true)
    (hes : ∀ e ∈ es, e.holds w = false) : l.find? (fun a => (f a).holds w) = some a := by
  obtain ⟨hlt, rfl⟩ := List.getElem?_eq_some_iff.mp hn
  refine List.find?_eq_some_iff_getElem.mpr ⟨holds_iff.mpr ha, n, hlt, rfl, fun j hj => ?_⟩
  have hmem : f l[j] ∈ (l.map f).take n := by
    rw [← List.map_take]
    exact List.mem_map_of_mem (List.mem_take_iff_getElem.mpr ⟨j, by omega, rfl⟩)
  rw [not_holds_of_clear h (by simp [hlt]) (holds_iff.mpr ha) hes hmem]
  rfl

/-- Where the patterns cover every word, a word has a first entry whose pattern holds, and meets none of that entry's exclusions. -/
theorem exists_first {α : Type} {f : α → Pattern k} {l : List α} {bits bits' : List Nat} {es : Nat → List (Pattern k)}
    (hcover : cover bits (l.map f) = true) (hes : ∀ n : Fin l.length, covered bits' (l.map f) n (es n) = true) (w : BitVec k) :
    ∃ n a, l[n]? = some a ∧ (f a).holds w = true ∧ ∀ e ∈ es n, e.holds w = false := by
  obtain ⟨q, hq, hw⟩ := exists_of_cover hcover w
  obtain ⟨b, hb, rfl⟩ := List.mem_map.mp hq
  obtain ⟨a, ha⟩ := Option.isSome_iff_exists.mp (List.find?_isSome (p := fun a => (f a).holds w) |>.mpr ⟨b, hb, hw⟩)
  obtain ⟨hholds, n, hn, rfl, hfirst⟩ := List.find?_eq_some_iff_getElem.mp ha
  refine ⟨n, l[n], List.getElem?_eq_getElem hn, hholds, fun e he => ?_⟩
  by_contra hew
  rw [Bool.not_eq_false] at hew
  have hc := List.all_eq_true.mp (hes ⟨n, hn⟩) e he
  rw [List.getElem?_map, List.getElem?_eq_getElem hn, Option.map_some, Option.all_some] at hc
  obtain ⟨q, hq, hqw⟩ := exists_of_given hholds (exists_of_given hew (exists_of_cover hc w))
  rw [← List.map_take, List.mem_map] at hq
  obtain ⟨a, ha, rfl⟩ := hq
  obtain ⟨j, hj, rfl⟩ := List.mem_take_iff_getElem.mp ha
  simpa [hqw] using hfirst j (Nat.lt_of_lt_of_le hj (Nat.min_le_left ..))

end Pattern

/-- What a row tests. -/
def ArmRow.pattern (r : ArmRow) : Pattern 32 := ⟨r.mask, r.val⟩

/-- What a row tests. -/
def ThumbRow.pattern (r : ThumbRow) : Pattern 16 := ⟨r.mask, r.val⟩

/-- What the ARM rows test, in order. -/
def armPatterns : List (Pattern 32) := armRows.map ArmRow.pattern

/-- What the Thumb rows test, in order. -/
def thumbPatterns : List (Pattern 16) := thumbRows.map ThumbRow.pattern

/-- The patterns with which an earlier row can take a word that ARM row `n` matches: the checks of `isUndMulSwap` and `isUndPsr`, and the
anomaly that stands before the single transfers (30 R306 steps 1, 3 and 6). -/
def armExcluded (n : Nat) : List (Pattern 32) :=
  match n with
  | 8 => [⟨0x0FC000F0, 0x00000090⟩, ⟨0x0F8000F0, 0x00800090⟩, ⟨0x0FB000F0, 0x01000090⟩]
  | 17 => [⟨0x00000090, 0x00000090⟩, ⟨0x0FB000F0, 0x01000000⟩, ⟨0x0FB000F0, 0x01200000⟩, ⟨0x0FF000F0, 0x01200010⟩]
  | n => if 69 ≤ n ∧ n ≤ 80 then [⟨0x0E000010, 0x06000010⟩] else []

/-- The same for Thumb row `n`: the reserved condition and SWI before the conditional branch (30 R307 format 16). -/
def thumbExcluded (n : Nat) : List (Pattern 16) :=
  match n with
  | 63 => [⟨0xFF00, 0xDE00⟩, ⟨0xFF00, 0xDF00⟩]
  | _ => []

theorem armPatterns_clear : ∀ n : Fin 88, Pattern.clear armPatterns n (armExcluded n) = true := by decide

theorem thumbPatterns_clear : ∀ n : Fin 68, Pattern.clear thumbPatterns n (thumbExcluded n) = true := by decide

/-- A word that matches ARM row `n`, and none of its exclusions, decodes by it. -/
theorem decode_arm_row {n : Nat} {r : ArmRow} {w : Word} (hn : armRows[n]? = some r) (hw : w &&& r.mask = r.val)
    (hes : ∀ e ∈ armExcluded n, e.holds w = false) : decode (.arm w) = some (r.build w) := by
  have hlt : n < 88 := (List.getElem?_eq_some_iff.mp hn).1
  rw [decode_arm, armRowOf]
  exact congrArg _ (Pattern.find?_of_clear (f := ArmRow.pattern) hn hw (armPatterns_clear ⟨n, hlt⟩) hes)

/-- A halfword that matches Thumb row `n`, and none of its exclusions, decodes by it. -/
theorem decode_thumb_row {n : Nat} {r : ThumbRow} {h : Half} (hn : thumbRows[n]? = some r) (hh : h &&& r.mask = r.val)
    (hes : ∀ e ∈ thumbExcluded n, e.holds h = false) : decode (.thumb h) = some (r.build h) := by
  have hlt : n < 68 := (List.getElem?_eq_some_iff.mp hn).1
  rw [decode_thumb, thumbRowOf]
  exact congrArg _ (Pattern.find?_of_clear (f := ThumbRow.pattern) hn hh (thumbPatterns_clear ⟨n, hlt⟩) hes)

/-- Every ARM word matches a row: splitting on the twelve bits that the rows test, first on those that select a format. -/
theorem armPatterns_cover : Pattern.cover [27, 26, 25, 24, 23, 20, 22, 21, 4, 7, 5, 6] armPatterns = true := by decide

theorem thumbPatterns_cover : Pattern.cover [15, 14, 13, 12, 11, 10, 9, 8, 7, 6] thumbPatterns = true := by decide

/-- The exclusions are no more than earlier rows take: a word that matches a row and one of its exclusions matches an earlier row. -/
theorem armExcluded_covered : ∀ n : Fin 88, Pattern.covered [21, 22, 5, 6] armPatterns n (armExcluded n) = true := by decide

theorem thumbExcluded_covered : ∀ n : Fin 68, Pattern.covered [] thumbPatterns n (thumbExcluded n) = true := by decide

/-- Every word decodes, by a row it matches and none of whose exclusions it matches. -/
theorem exists_armRow (w : Word) : ∃ n r, armRows[n]? = some r ∧ r.pattern.holds w = true ∧
    (∀ e ∈ armExcluded n, e.holds w = false) ∧ decode (.arm w) = some (r.build w) := by
  obtain ⟨n, r, hn, hr, hes⟩ := Pattern.exists_first (f := ArmRow.pattern) armPatterns_cover armExcluded_covered w
  exact ⟨n, r, hn, hr, hes, decode_arm_row hn (Pattern.holds_iff.mp hr) hes⟩

theorem exists_thumbRow (h : Half) : ∃ n r, thumbRows[n]? = some r ∧ r.pattern.holds h = true ∧
    (∀ e ∈ thumbExcluded n, e.holds h = false) ∧ decode (.thumb h) = some (r.build h) := by
  obtain ⟨n, r, hn, hr, hes⟩ := Pattern.exists_first (f := ThumbRow.pattern) thumbPatterns_cover thumbExcluded_covered h
  exact ⟨n, r, hn, hr, hes, decode_thumb_row hn (Pattern.holds_iff.mp hr) hes⟩

end Sys2Proof
end

section
/-! Decoding what the encoder writes, one lemma per instruction format (30 R301, R307), for every row of the format: the word has the
bits that the row tests, and the row reads each operand back. The constructors of `Instr` stand in the order of the two tables, so a
constructor's number gives its row. Left to check for a row are `hrow`, that the table has the format's row with its opcode there, and
`hfree`, that no earlier row can take the format's words. -/

namespace Sys2Proof

open BitVec (extractLsb'_append_eq_of_le extractLsb'_append_eq_of_add_le and_append and_zero and_allOnes allOnes)

theorem append_and_append {v w : Nat} {x m r : BitVec v} {y m' r' : BitVec w} (hx : x &&& m = r) (hy : y &&& m' = r') :
    (x ++ y) &&& (m ++ m') = r ++ r' := by rw [and_append, hx, hy]

theorem getLsbD_append_of_lt {v w i : Nat} {x : BitVec v} {y : BitVec w} (h : i < w) : (x ++ y).getLsbD i = y.getLsbD i := by
  rw [BitVec.getLsbD_append, if_pos h]

theorem getLsbD_append_of_le {v w i : Nat} {x : BitVec v} {y : BitVec w} (h : w ≤ i) :
    (x ++ y).getLsbD i = x.getLsbD (i - w) := by
  rw [BitVec.getLsbD_append, if_neg (Nat.not_lt.mpr h)]

@[simp] theorem getElem_flagBit (b : Bool) : (flagBit b)[0] = b := getLsbD_flagBit b

/-! ### ARM formats -/

section
variable {c : Cond} {sf p u sb w l r : Bool} {rn rd rs rm : Reg} {sh : ShiftType} {shImm : BitVec 5} {rot : BitVec 4} {imm8 : BitVec 8}

theorem decode_encMul {mk : Cond → Bool → Reg → Reg → Reg → Reg → Instr} {op : BitVec 7}
    (hrow : armRows[(mk c sf rd rn rs rm).ctorIdx]? = some
      ⟨0#4 ++ allOnes 7 ++ 0#1 ++ 0#4 ++ 0#4 ++ 0#4 ++ allOnes 4 ++ 0#4, 0#4 ++ op ++ 0#1 ++ 0#4 ++ 0#4 ++ 0#4 ++ 0b1001#4 ++ 0#4,
        fun w => mk (armCond w) (bitAt w 20) (regAt w 16) (regAt w 12) (regAt w 8) (regAt w 0)⟩)
    (hfree : armExcluded (mk c sf rd rn rs rm).ctorIdx = []) :
    decode (.arm (encMul c op sf rd rn rs rm)) = some (mk c sf rd rn rs rm) := by
  rw [decode_arm_row hrow ?bits (hfree ▸ List.forall_mem_nil _)]
  case bits => apply append_and_append <;> simp only [and_append, and_zero, and_allOnes]
  simp (disch := decide) only [encMul, armCond, bitAt, regAt, extractLsb'_append_eq_of_le, extractLsb'_append_eq_of_add_le,
    getLsbD_append_of_lt, getLsbD_append_of_le]
  simp

theorem decode_encSwp {mk : Cond → Reg → Reg → Reg → Instr} {byte : Bool}
    (hrow : armRows[(mk c rn rd rm).ctorIdx]? = some
      ⟨0#4 ++ allOnes 5 ++ allOnes 1 ++ allOnes 2 ++ 0#4 ++ 0#4 ++ 0x0F#8 ++ 0#4,
        0#4 ++ 0b00010#5 ++ flagBit byte ++ 0b00#2 ++ 0#4 ++ 0#4 ++ 0b1001#8 ++ 0#4,
        fun w => mk (armCond w) (regAt w 16) (regAt w 12) (regAt w 0)⟩)
    (hfree : armExcluded (mk c rn rd rm).ctorIdx = []) :
    decode (.arm (encSwp c byte rn rd rm)) = some (mk c rn rd rm) := by
  rw [decode_arm_row hrow ?bits (hfree ▸ List.forall_mem_nil _)]
  case bits => apply append_and_append <;> simp only [and_append, and_zero, and_allOnes]; rfl
  simp (disch := decide) only [encSwp, armCond, regAt, extractLsb'_append_eq_of_le, extractLsb'_append_eq_of_add_le]
  simp

/-- A row leaves S to the instruction (`ms = 0`), or tests it (`ms = 1`) where the operation has no other form. -/
theorem decode_encDpImm {mk : Cond → Bool → Reg → Reg → BitVec 4 → BitVec 8 → Instr} {op : BitVec 4} {ms vs : BitVec 1}
    (hs : flagBit sf &&& ms = vs)
    (hrow : armRows[(mk c sf rn rd rot imm8).ctorIdx]? = some
      ⟨0#4 ++ allOnes 3 ++ allOnes 4 ++ ms ++ 0#4 ++ 0#4 ++ 0#4 ++ 0#8, 0#4 ++ 0b001#3 ++ op ++ vs ++ 0#4 ++ 0#4 ++ 0#4 ++ 0#8,
        fun w => mk (armCond w) (bitAt w 20) (regAt w 16) (regAt w 12) (w.extractLsb' 8 4) (w.extractLsb' 0 8)⟩)
    (hfree : armExcluded (mk c sf rn rd rot imm8).ctorIdx = []) :
    decode (.arm (encDpImm c op sf rn rd rot imm8)) = some (mk c sf rn rd rot imm8) := by
  rw [decode_arm_row hrow ?bits (hfree ▸ List.forall_mem_nil _)]
  case bits => apply append_and_append <;> simp only [and_append, and_zero, and_allOnes, hs]
  simp (disch := decide) only [encDpImm, armCond, bitAt, regAt, extractLsb'_append_eq_of_le, extractLsb'_append_eq_of_add_le,
    getLsbD_append_of_lt, getLsbD_append_of_le]
  simp

theorem decode_encDpRsi {mk : Cond → Bool → Reg → Reg → BitVec 5 → ShiftType → Reg → Instr} {op : BitVec 4} {ms vs : BitVec 1}
    (hs : flagBit sf &&& ms = vs)
    (hrow : armRows[(mk c sf rn rd shImm sh rm).ctorIdx]? = some
      ⟨0#4 ++ allOnes 3 ++ allOnes 4 ++ ms ++ 0#4 ++ 0#4 ++ 0#5 ++ 0#2 ++ allOnes 1 ++ 0#4,
        0#4 ++ 0b000#3 ++ op ++ vs ++ 0#4 ++ 0#4 ++ 0#5 ++ 0#2 ++ 0b0#1 ++ 0#4,
        fun w => mk (armCond w) (bitAt w 20) (regAt w 16) (regAt w 12) (w.extractLsb' 7 5) (armShift w) (regAt w 0)⟩)
    (hfree : armExcluded (mk c sf rn rd shImm sh rm).ctorIdx = []) :
    decode (.arm (encDpRsi c op sf rn rd shImm sh rm)) = some (mk c sf rn rd shImm sh rm) := by
  rw [decode_arm_row hrow ?bits (hfree ▸ List.forall_mem_nil _)]
  case bits => apply append_and_append <;> simp only [and_append, and_zero, and_allOnes, hs]
  simp (disch := decide) only [encDpRsi, armCond, armShift, bitAt, regAt, extractLsb'_append_eq_of_le,
    extractLsb'_append_eq_of_add_le, getLsbD_append_of_lt, getLsbD_append_of_le]
  simp

theorem decode_encDpRsr {mk : Cond → Bool → Reg → Reg → Reg → ShiftType → Reg → Instr} {op : BitVec 4} {ms vs : BitVec 1}
    (hs : flagBit sf &&& ms = vs)
    (hrow : armRows[(mk c sf rn rd rs sh rm).ctorIdx]? = some
      ⟨0#4 ++ allOnes 3 ++ allOnes 4 ++ ms ++ 0#4 ++ 0#4 ++ 0#4 ++ allOnes 1 ++ 0#2 ++ allOnes 1 ++ 0#4,
        0#4 ++ 0b000#3 ++ op ++ vs ++ 0#4 ++ 0#4 ++ 0#4 ++ 0b0#1 ++ 0#2 ++ 0b1#1 ++ 0#4,
        fun w => mk (armCond w) (bitAt w 20) (regAt w 16) (regAt w 12) (regAt w 8) (armShift w) (regAt w 0)⟩)
    (hfree : armExcluded (mk c sf rn rd rs sh rm).ctorIdx = []) :
    decode (.arm (encDpRsr c op sf rn rd rs sh rm)) = some (mk c sf rn rd rs sh rm) := by
  rw [decode_arm_row hrow ?bits (hfree ▸ List.forall_mem_nil _)]
  case bits => apply append_and_append <;> simp only [and_append, and_zero, and_allOnes, hs]
  simp (disch := decide) only [encDpRsr, armCond, armShift, bitAt, regAt, extractLsb'_append_eq_of_le,
    extractLsb'_append_eq_of_add_le, getLsbD_append_of_lt, getLsbD_append_of_le]
  simp

theorem armHalfOffset_encHalf {sh : BitVec 2} {off : HalfOffset} : armHalfOffset (encHalf c p u w l sh rn rd off) = off := by
  cases off with
  | imm v =>
    have hv : v.extractLsb' 4 4 ++ v.extractLsb' 0 4 = v :=
      (BitVec.extractLsb'_append_extractLsb'_eq_extractLsb' rfl).trans BitVec.extractLsb'_eq_self
    simp (disch := decide) only [encHalf, halfOffsetBits, armHalfOffset, bitAt, extractLsb'_append_eq_of_le,
      extractLsb'_append_eq_of_add_le, getLsbD_append_of_lt, getLsbD_append_of_le]
    simp [hv]
  | reg rm =>
    simp (disch := decide) only [encHalf, halfOffsetBits, armHalfOffset, bitAt, regAt, extractLsb'_append_eq_of_le,
      extractLsb'_append_eq_of_add_le, getLsbD_append_of_lt, getLsbD_append_of_le]
    simp

theorem decode_encHalf {mk : Cond → Bool → Bool → Bool → Reg → Reg → HalfOffset → Instr} {sh : BitVec 2} {off : HalfOffset}
    (hrow : armRows[(mk c p u w rn rd off).ctorIdx]? = some
      ⟨0#4 ++ allOnes 3 ++ 0#1 ++ 0#1 ++ 0#1 ++ 0#1 ++ allOnes 1 ++ 0#4 ++ 0#4 ++ 0#4 ++ allOnes 1 ++ allOnes 2 ++ allOnes 1 ++ 0#4,
        0#4 ++ 0b000#3 ++ 0#1 ++ 0#1 ++ 0#1 ++ 0#1 ++ flagBit l ++ 0#4 ++ 0#4 ++ 0#4 ++ 0b1#1 ++ sh ++ 0b1#1 ++ 0#4,
        fun w => mk (armCond w) (bitAt w 24) (bitAt w 23) (bitAt w 21) (regAt w 16) (regAt w 12) (armHalfOffset w)⟩)
    (hfree : armExcluded (mk c p u w rn rd off).ctorIdx = []) :
    decode (.arm (encHalf c p u w l sh rn rd off)) = some (mk c p u w rn rd off) := by
  rw [decode_arm_row hrow ?bits (hfree ▸ List.forall_mem_nil _)]
  case bits => apply append_and_append <;> simp only [and_append, and_zero, and_allOnes]
  simp only [armHalfOffset_encHalf]
  simp (disch := decide) only [encHalf, armCond, bitAt, regAt, extractLsb'_append_eq_of_le, extractLsb'_append_eq_of_add_le,
    getLsbD_append_of_lt, getLsbD_append_of_le]
  simp

theorem armOffset_encSingle {byte : Bool} {off : Offset} : armOffset (encSingle c p u byte w l rn rd off) = off := by
  cases off <;>
  · simp (disch := decide) only [encSingle, offsetBits, armOffset, armShift, bitAt, regAt, extractLsb'_append_eq_of_le,
      extractLsb'_append_eq_of_add_le, getLsbD_append_of_lt, getLsbD_append_of_le]
    simp

/-- An encoded single transfer with a register offset has bit 4 clear (30 R306 step 6). -/
theorem encSingle_not_und011 {byte : Bool} {off : Offset} :
    (⟨0x0E000010, 0x06000010⟩ : Pattern 32).holds (encSingle c p u byte w l rn rd off) = false := by
  refine decide_eq_false fun h => ?_
  have h25 := congrArg (·.getLsbD 25) h
  have h4 := congrArg (·.getLsbD 4) h
  cases off <;>
  · simp (disch := decide) only [encSingle, offsetBits, BitVec.getLsbD_and, getLsbD_append_of_lt, getLsbD_append_of_le] at h25 h4
    simp at h25 h4

/-- A row leaves bit 21 to the instruction (`mw = 0`, pre-indexed), or tests it (`mw = 1`, post-indexed and user-mode transfers). -/
theorem decode_encSingle {mk : Cond → Bool → Bool → Reg → Reg → Offset → Instr} {byte : Bool} {off : Offset} {mw vw : BitVec 1}
    (hw : flagBit w &&& mw = vw)
    (hrow : armRows[(mk c u w rn rd off).ctorIdx]? = some
      ⟨0#4 ++ allOnes 2 ++ 0#1 ++ allOnes 1 ++ 0#1 ++ allOnes 1 ++ mw ++ allOnes 1 ++ 0#4 ++ 0#4 ++ 0#12,
        0#4 ++ 0b01#2 ++ 0#1 ++ flagBit p ++ 0#1 ++ flagBit byte ++ vw ++ flagBit l ++ 0#4 ++ 0#4 ++ 0#12,
        fun w => mk (armCond w) (bitAt w 23) (bitAt w 21) (regAt w 16) (regAt w 12) (armOffset w)⟩)
    (hexcl : armExcluded (mk c u w rn rd off).ctorIdx = [⟨0x0E000010, 0x06000010⟩]) :
    decode (.arm (encSingle c p u byte w l rn rd off)) = some (mk c u w rn rd off) := by
  rw [decode_arm_row hrow ?bits (hexcl ▸ List.forall_mem_singleton.mpr encSingle_not_und011)]
  case bits => apply append_and_append <;> simp only [and_append, and_zero, and_allOnes, hw]
  simp only [armOffset_encSingle]
  simp (disch := decide) only [encSingle, armCond, bitAt, regAt, extractLsb'_append_eq_of_le, extractLsb'_append_eq_of_add_le,
    getLsbD_append_of_lt, getLsbD_append_of_le]
  simp

theorem decode_encBlock {mk : Cond → Bool → Bool → Bool → Bool → Reg → BitVec 16 → Instr} {list : BitVec 16}
    (hrow : armRows[(mk c p u sb w rn list).ctorIdx]? = some
      ⟨0#4 ++ allOnes 3 ++ 0#1 ++ 0#1 ++ 0#1 ++ 0#1 ++ allOnes 1 ++ 0#4 ++ 0#16,
        0#4 ++ 0b100#3 ++ 0#1 ++ 0#1 ++ 0#1 ++ 0#1 ++ flagBit l ++ 0#4 ++ 0#16,
        fun w => mk (armCond w) (bitAt w 24) (bitAt w 23) (bitAt w 22) (bitAt w 21) (regAt w 16) (w.extractLsb' 0 16)⟩)
    (hfree : armExcluded (mk c p u sb w rn list).ctorIdx = []) :
    decode (.arm (encBlock c p u sb w l rn list)) = some (mk c p u sb w rn list) := by
  rw [decode_arm_row hrow ?bits (hfree ▸ List.forall_mem_nil _)]
  case bits => apply append_and_append <;> simp only [and_append, and_zero, and_allOnes]
  simp (disch := decide) only [encBlock, armCond, bitAt, regAt, extractLsb'_append_eq_of_le, extractLsb'_append_eq_of_add_le,
    getLsbD_append_of_lt, getLsbD_append_of_le]
  simp

/-- B, BL and SWI. -/
theorem decode_cond_op_field {mk : Cond → BitVec 24 → Instr} {op : BitVec 4} {v : BitVec 24}
    (hrow : armRows[(mk c v).ctorIdx]? = some
      ⟨0#4 ++ allOnes 4 ++ 0#24, 0#4 ++ op ++ 0#24, fun w => mk (armCond w) (w.extractLsb' 0 24)⟩)
    (hfree : armExcluded (mk c v).ctorIdx = []) :
    decode (.arm (condBits c ++ op ++ v)) = some (mk c v) := by
  rw [decode_arm_row hrow ?bits (hfree ▸ List.forall_mem_nil _)]
  case bits => apply append_and_append <;> simp only [and_append, and_zero, and_allOnes]
  simp (disch := decide) only [armCond, extractLsb'_append_eq_of_le, extractLsb'_append_eq_of_add_le]
  simp

theorem decode_encode_mrs : decode (encode (.mrs c r rd)) = some (.mrs c r rd) := by
  have hrow : armRows[(Instr.mrs c r rd).ctorIdx]? = some
      ⟨0#4 ++ allOnes 5 ++ 0#1 ++ allOnes 2 ++ 0#4 ++ 0#4 ++ 0x0F0#12, 0#4 ++ 0b00010#5 ++ 0#1 ++ 0b00#2 ++ 0#4 ++ 0#4 ++ 0x000#12,
        fun w => .mrs (armCond w) (bitAt w 22) (regAt w 12)⟩ := rfl
  rw [encode, decode_arm_row hrow ?bits (List.forall_mem_nil _)]
  case bits => exact append_and_append (by simp only [and_append, and_zero, and_allOnes]) rfl
  simp (disch := decide) only [armCond, bitAt, regAt, extractLsb'_append_eq_of_le, extractLsb'_append_eq_of_add_le,
    getLsbD_append_of_lt, getLsbD_append_of_le]
  simp

theorem decode_encode_msrReg {mask : BitVec 4} : decode (encode (.msrReg c r mask rm)) = some (.msrReg c r mask rm) := by
  have hrow : armRows[(Instr.msrReg c r mask rm).ctorIdx]? = some
      ⟨0#4 ++ allOnes 5 ++ 0#1 ++ allOnes 2 ++ 0#4 ++ 0#4 ++ 0x0F#8 ++ 0#4,
        0#4 ++ 0b00010#5 ++ 0#1 ++ 0b10#2 ++ 0#4 ++ 0#4 ++ 0x00#8 ++ 0#4,
        fun w => .msrReg (armCond w) (bitAt w 22) (w.extractLsb' 16 4) (regAt w 0)⟩ := rfl
  rw [encode, decode_arm_row hrow ?bits (List.forall_mem_nil _)]
  case bits => apply append_and_append <;> simp only [and_append, and_zero, and_allOnes]; rfl
  simp (disch := decide) only [armCond, bitAt, regAt, extractLsb'_append_eq_of_le, extractLsb'_append_eq_of_add_le,
    getLsbD_append_of_lt, getLsbD_append_of_le]
  simp

theorem decode_encode_bx : decode (encode (.bx c rm)) = some (.bx c rm) := by
  have hrow : armRows[(Instr.bx c rm).ctorIdx]? = some
      ⟨0#4 ++ 0xFF000F#24 ++ 0#4, 0#4 ++ 0x120001#24 ++ 0#4, fun w => .bx (armCond w) (regAt w 0)⟩ := rfl
  rw [encode, decode_arm_row hrow ?bits (List.forall_mem_nil _)]
  case bits => apply append_and_append <;> simp only [and_append, and_zero]; rfl
  simp (disch := decide) only [armCond, regAt, extractLsb'_append_eq_of_le, extractLsb'_append_eq_of_add_le]
  simp

theorem decode_encode_msrImm {mask : BitVec 4} :
    decode (encode (.msrImm c r mask rot imm8)) = some (.msrImm c r mask rot imm8) := by
  have hrow : armRows[(Instr.msrImm c r mask rot imm8).ctorIdx]? = some
      ⟨0#4 ++ allOnes 5 ++ 0#1 ++ allOnes 2 ++ 0#4 ++ 0#4 ++ 0#4 ++ 0#8, 0#4 ++ 0b00110#5 ++ 0#1 ++ 0b10#2 ++ 0#4 ++ 0#4 ++ 0#4 ++ 0#8,
        fun w => .msrImm (armCond w) (bitAt w 22) (w.extractLsb' 16 4) (w.extractLsb' 8 4) (w.extractLsb' 0 8)⟩ := rfl
  rw [encode, decode_arm_row hrow ?bits (List.forall_mem_nil _)]
  case bits => apply append_and_append <;> simp only [and_append, and_zero, and_allOnes]
  simp (disch := decide) only [armCond, bitAt, extractLsb'_append_eq_of_le, extractLsb'_append_eq_of_add_le,
    getLsbD_append_of_lt, getLsbD_append_of_le]
  simp

end

/-! ### Thumb formats -/

section
variable {ra rb rd : LoReg} {off3 : BitVec 3} {off5 : BitVec 5} {v : BitVec 8}

theorem decode_enc333_reg {mk : LoReg → LoReg → LoReg → Instr} {op : BitVec 7}
    (hrow : thumbRows[(mk ra rb rd).ctorIdx - 88]? = some
      ⟨allOnes 7 ++ 0#3 ++ 0#3 ++ 0#3, op ++ 0#3 ++ 0#3 ++ 0#3, fun h => mk (loRegAt h 6) (loRegAt h 3) (loRegAt h 0)⟩)
    (hfree : thumbExcluded ((mk ra rb rd).ctorIdx - 88) = []) :
    decode (.thumb (enc333 op (loRegBits ra) rb rd)) = some (mk ra rb rd) := by
  rw [decode_thumb_row hrow ?bits (hfree ▸ List.forall_mem_nil _)]
  case bits => apply append_and_append <;> simp only [and_append, and_zero, and_allOnes]
  simp (disch := decide) only [enc333, loRegAt, extractLsb'_append_eq_of_le, extractLsb'_append_eq_of_add_le]
  simp

theorem decode_enc333_imm {mk : BitVec 3 → LoReg → LoReg → Instr} {op : BitVec 7}
    (hrow : thumbRows[(mk off3 rb rd).ctorIdx - 88]? = some
      ⟨allOnes 7 ++ 0#3 ++ 0#3 ++ 0#3, op ++ 0#3 ++ 0#3 ++ 0#3, fun h => mk (h.extractLsb' 6 3) (loRegAt h 3) (loRegAt h 0)⟩)
    (hfree : thumbExcluded ((mk off3 rb rd).ctorIdx - 88) = []) :
    decode (.thumb (enc333 op off3 rb rd)) = some (mk off3 rb rd) := by
  rw [decode_thumb_row hrow ?bits (hfree ▸ List.forall_mem_nil _)]
  case bits => apply append_and_append <;> simp only [and_append, and_zero, and_allOnes]
  simp (disch := decide) only [enc333, loRegAt, extractLsb'_append_eq_of_le, extractLsb'_append_eq_of_add_le]
  simp

theorem decode_enc533 {mk : BitVec 5 → LoReg → LoReg → Instr} {op : BitVec 5}
    (hrow : thumbRows[(mk off5 rb rd).ctorIdx - 88]? = some
      ⟨allOnes 5 ++ 0#5 ++ 0#3 ++ 0#3, op ++ 0#5 ++ 0#3 ++ 0#3, fun h => mk (h.extractLsb' 6 5) (loRegAt h 3) (loRegAt h 0)⟩)
    (hfree : thumbExcluded ((mk off5 rb rd).ctorIdx - 88) = []) :
    decode (.thumb (enc533 op off5 rb rd)) = some (mk off5 rb rd) := by
  rw [decode_thumb_row hrow ?bits (hfree ▸ List.forall_mem_nil _)]
  case bits => apply append_and_append <;> simp only [and_append, and_zero, and_allOnes]
  simp (disch := decide) only [enc533, loRegAt, extractLsb'_append_eq_of_le, extractLsb'_append_eq_of_add_le]
  simp

theorem decode_enc38 {mk : LoReg → BitVec 8 → Instr} {op : BitVec 5}
    (hrow : thumbRows[(mk rd v).ctorIdx - 88]? = some
      ⟨allOnes 5 ++ 0#3 ++ 0#8, op ++ 0#3 ++ 0#8, fun h => mk (loRegAt h 8) (h.extractLsb' 0 8)⟩)
    (hfree : thumbExcluded ((mk rd v).ctorIdx - 88) = []) :
    decode (.thumb (enc38 op rd v)) = some (mk rd v) := by
  rw [decode_thumb_row hrow ?bits (hfree ▸ List.forall_mem_nil _)]
  case bits => apply append_and_append <;> simp only [and_append, and_zero, and_allOnes]
  simp (disch := decide) only [enc38, loRegAt, extractLsb'_append_eq_of_le, extractLsb'_append_eq_of_add_le]
  simp

theorem decode_encAlu {mk : LoReg → LoReg → Instr} {op : BitVec 10}
    (hrow : thumbRows[(mk rb rd).ctorIdx - 88]? = some
      ⟨allOnes 10 ++ 0#3 ++ 0#3, op ++ 0#3 ++ 0#3, fun h => mk (loRegAt h 3) (loRegAt h 0)⟩)
    (hfree : thumbExcluded ((mk rb rd).ctorIdx - 88) = []) :
    decode (.thumb (encAlu op rb rd)) = some (mk rb rd) := by
  rw [decode_thumb_row hrow ?bits (hfree ▸ List.forall_mem_nil _)]
  case bits => apply append_and_append <;> simp only [and_append, and_zero, and_allOnes]
  simp (disch := decide) only [encAlu, loRegAt, extractLsb'_append_eq_of_le, extractLsb'_append_eq_of_add_le]
  simp

/-- The H bit over the field is the register's number. -/
theorem extractLsb'_append_regBits (r : Reg) : (regBits r).extractLsb' 3 1 ++ (regBits r).extractLsb' 0 3 = regBits r :=
  (BitVec.extractLsb'_append_extractLsb'_eq_extractLsb' rfl).trans BitVec.extractLsb'_eq_self

theorem decode_encHi {mk : Reg → Reg → Instr} {op : BitVec 8} {rs rd : Reg}
    (hrow : thumbRows[(mk rs rd).ctorIdx - 88]? = some
      ⟨allOnes 8 ++ 0#1 ++ 0#4 ++ 0#3, op ++ 0#1 ++ 0#4 ++ 0#3, fun h => mk (hiRegAt h 6 3) (hiRegAt h 7 0)⟩)
    (hfree : thumbExcluded ((mk rs rd).ctorIdx - 88) = []) :
    decode (.thumb (encHi op rs rd)) = some (mk rs rd) := by
  rw [decode_thumb_row hrow ?bits (hfree ▸ List.forall_mem_nil _)]
  case bits => apply append_and_append <;> simp only [and_append, and_zero, and_allOnes]
  simp (disch := decide) only [encHi, hiRegAt, extractLsb'_append_eq_of_le, extractLsb'_append_eq_of_add_le]
  simp [extractLsb'_append_regBits]

theorem decode_encode_tBx {h1 : Bool} {rs : Reg} : decode (encode (.tBx h1 rs rd)) = some (.tBx h1 rs rd) := by
  have hrow : thumbRows[(Instr.tBx h1 rs rd).ctorIdx - 88]? = some
      ⟨allOnes 8 ++ 0#1 ++ 0#4 ++ 0#3, 0x47#8 ++ 0#1 ++ 0#4 ++ 0#3, fun h => .tBx (bitAt h 7) (hiRegAt h 6 3) (loRegAt h 0)⟩ := rfl
  rw [encode, decode_thumb_row hrow ?bits (List.forall_mem_nil _)]
  case bits => apply append_and_append <;> simp only [and_append, and_zero, and_allOnes]
  simp (disch := decide) only [bitAt, hiRegAt, loRegAt, extractLsb'_append_eq_of_le, extractLsb'_append_eq_of_add_le,
    getLsbD_append_of_lt, getLsbD_append_of_le]
  simp [extractLsb'_append_regBits]

/-- One field under the opcode: an adjustment of SP, SWI, B, the halves of BL. -/
theorem decode_op_field {n : Nat} {mk : BitVec n → Instr} {v : BitVec n} {h mask val : Half} (hbits : h &&& mask = val)
    (hfield : h.extractLsb' 0 n = v)
    (hrow : thumbRows[(mk v).ctorIdx - 88]? = some ⟨mask, val, fun h => mk (h.extractLsb' 0 n)⟩)
    (hfree : thumbExcluded ((mk v).ctorIdx - 88) = []) : decode (.thumb h) = some (mk v) := by
  rw [decode_thumb_row hrow hbits (hfree ▸ List.forall_mem_nil _)]
  exact congrArg (some ∘ mk) hfield

theorem decode_op_flag_field {mk : Bool → BitVec 8 → Instr} {op : BitVec 7} {r : Bool}
    (hrow : thumbRows[(mk r v).ctorIdx - 88]? = some
      ⟨allOnes 7 ++ 0#1 ++ 0#8, op ++ 0#1 ++ 0#8, fun h => mk (bitAt h 8) (h.extractLsb' 0 8)⟩)
    (hfree : thumbExcluded ((mk r v).ctorIdx - 88) = []) :
    decode (.thumb (op ++ flagBit r ++ v)) = some (mk r v) := by
  rw [decode_thumb_row hrow ?bits (hfree ▸ List.forall_mem_nil _)]
  case bits => apply append_and_append <;> simp only [and_append, and_zero, and_allOnes]
  simp (disch := decide) only [bitAt, extractLsb'_append_eq_of_add_le,
    getLsbD_append_of_lt, getLsbD_append_of_le]
  simp

end

end Sys2Proof
end

section
/-! The statements about the encoding (30 R301 to R308, R320, R323). -/

namespace Sys2Proof.Claims

open Sys2Proof.Machine
open BitVec (and_zero and_allOnes and_append allOnes extractLsb'_append_eq_right)

/-! ### The decode anomalies: their checks are the masks of their rows -/

theorem decode_arm_anomaly {mk : Word → Instr} {w mask val : Word} (hwf : (mk w).wf = true)
    (hcheck : (mk w).wf = Word.under w mask val) (hrow : armRows[(mk w).ctorIdx]? = some ⟨mask, val, mk⟩)
    (hfree : armExcluded (mk w).ctorIdx = []) : decode (.arm w) = some (mk w) :=
  decode_arm_row hrow (of_decide_eq_true (hcheck.symm.trans hwf)) (hfree ▸ List.forall_mem_nil _)

theorem decode_thumb_anomaly {mk : Half → Instr} {h mask val : Half} (hwf : (mk h).wf = true)
    (hcheck : (mk h).wf = Half.under h mask val) (hrow : thumbRows[(mk h).ctorIdx - 88]? = some ⟨mask, val, mk⟩)
    (hfree : thumbExcluded ((mk h).ctorIdx - 88) = []) : decode (.thumb h) = some (mk h) :=
  decode_thumb_row hrow (of_decide_eq_true (hcheck.symm.trans hwf)) (hfree ▸ List.forall_mem_nil _)

theorem wf_undMulSwap (w : Word) : (Instr.undMulSwap w).wf = true ↔
    (⟨0x0E0000F0, 0x00000090⟩ : Pattern 32).holds w = true ∧ ∀ e ∈ armExcluded 8, e.holds w = false := by
  simp [Instr.wf, isUndMulSwap, Word.under, armExcluded, Pattern.holds, and_assoc]

theorem wf_undPsr (w : Word) : (Instr.undPsr w).wf = true ↔
    (⟨0x0F900000, 0x01000000⟩ : Pattern 32).holds w = true ∧ ∀ e ∈ armExcluded 17, e.holds w = false := by
  simp [Instr.wf, isUndPsr, Word.under, armExcluded, Pattern.holds, and_assoc]

/-! ### The conditional branch of Thumb (30 R307 format 16) -/

theorem half_eq_append (h : Half) : ∃ (a b : BitVec 4) (k : BitVec 8), h = a ++ b ++ k := by
  refine ⟨h.extractLsb' 12 4, h.extractLsb' 8 4, h.extractLsb' 0 8, ?_⟩
  have htop : h.extractLsb' 12 4 ++ h.extractLsb' 8 4 = h.extractLsb' 8 8 := BitVec.extractLsb'_append_extractLsb'_eq_extractLsb' rfl
  have hall : h.extractLsb' 8 8 ++ h.extractLsb' 0 8 = h :=
    (BitVec.extractLsb'_append_extractLsb'_eq_extractLsb' rfl).trans BitVec.extractLsb'_eq_self
  rw [htop, hall]

theorem and_top_nibble (a b : BitVec 4) (k : BitVec 8) : (a ++ b ++ k : Half) &&& 0xF000 = a ++ 0#4 ++ 0#8 :=
  append_and_append (m := allOnes 4 ++ 0#4) (append_and_append and_allOnes and_zero) and_zero

theorem and_top_byte (a b : BitVec 4) (k : BitVec 8) : (a ++ b ++ k : Half) &&& 0xFF00 = a ++ b ++ 0#8 :=
  append_and_append (m := allOnes 8) and_allOnes and_zero

/-- No earlier row takes a word of the branch exactly where its condition is one that a branch can have. -/
theorem bcond_excluded_iff (b : BitVec 4) (k : BitVec 8) :
    (∀ e ∈ thumbExcluded 63, e.holds (0xD#4 ++ b ++ k) = false) ↔ isThumbCond (condOfBits b) = true := by
  simp only [thumbExcluded, Pattern.holds, List.forall_mem_cons, List.not_mem_nil, false_implies, implies_true, and_top_byte]
  revert b
  decide

theorem isThumbCond_condOfBits (b : BitVec 4) : isThumbCond (condOfBits b) = true ↔ b.toNat < 14 := by
  revert b
  decide

theorem decode_encode_tBcond {c : Cond} {k : BitVec 8} (hwf : isThumbCond c = true) :
    decode (encode (.tBcond c k)) = some (.tBcond c k) := by
  rw [encode, decode_thumb_row (n := 63) rfl (and_top_nibble ..) ((bcond_excluded_iff ..).mpr (by simpa using hwf))]
  simp (disch := decide) only [BitVec.extractLsb'_append_eq_of_le, BitVec.extractLsb'_append_eq_of_add_le]
  simp

/-- Settles O6: each instruction by the lemma of its format, a decode anomaly by its own word. -/
theorem decodeOfEncodeIsIdentity : Obligations.DecodeOfEncodeIsIdentity := by
  intro i hwf
  cases i with
  | mul | mla | umull | umlal | smull | smlal => exact decode_encMul rfl rfl
  | swp | swpb => exact decode_encSwp rfl rfl
  | ldrh | ldrsb | ldrsh | strh => exact decode_encHalf rfl rfl
  | mrs => exact decode_encode_mrs
  | msrReg => exact decode_encode_msrReg
  | bx => exact decode_encode_bx
  | msrImm => exact decode_encode_msrImm
  | andImm | eorImm | subImm | rsbImm | addImm | adcImm | sbcImm | rscImm | orrImm | movImm | bicImm | mvnImm =>
    exact decode_encDpImm and_zero rfl rfl
  | andRsi | eorRsi | subRsi | rsbRsi | addRsi | adcRsi | sbcRsi | rscRsi | orrRsi | movRsi | bicRsi | mvnRsi =>
    exact decode_encDpRsi and_zero rfl rfl
  | andRsr | eorRsr | subRsr | rsbRsr | addRsr | adcRsr | sbcRsr | rscRsr | orrRsr | movRsr | bicRsr | mvnRsr =>
    exact decode_encDpRsr and_zero rfl rfl
  | tstImm => exact decode_encDpImm (mk := fun c _ => .tstImm c) and_allOnes rfl rfl
  | teqImm => exact decode_encDpImm (mk := fun c _ => .teqImm c) and_allOnes rfl rfl
  | cmpImm => exact decode_encDpImm (mk := fun c _ => .cmpImm c) and_allOnes rfl rfl
  | cmnImm => exact decode_encDpImm (mk := fun c _ => .cmnImm c) and_allOnes rfl rfl
  | tstRsi => exact decode_encDpRsi (mk := fun c _ => .tstRsi c) and_allOnes rfl rfl
  | teqRsi => exact decode_encDpRsi (mk := fun c _ => .teqRsi c) and_allOnes rfl rfl
  | cmpRsi => exact decode_encDpRsi (mk := fun c _ => .cmpRsi c) and_allOnes rfl rfl
  | cmnRsi => exact decode_encDpRsi (mk := fun c _ => .cmnRsi c) and_allOnes rfl rfl
  | tstRsr => exact decode_encDpRsr (mk := fun c _ => .tstRsr c) and_allOnes rfl rfl
  | teqRsr => exact decode_encDpRsr (mk := fun c _ => .teqRsr c) and_allOnes rfl rfl
  | cmpRsr => exact decode_encDpRsr (mk := fun c _ => .cmpRsr c) and_allOnes rfl rfl
  | cmnRsr => exact decode_encDpRsr (mk := fun c _ => .cmnRsr c) and_allOnes rfl rfl
  | ldrPre | strPre | ldrbPre | strbPre => exact decode_encSingle and_zero rfl rfl
  | ldrPost => exact decode_encSingle (mk := fun c u _ => .ldrPost c u) and_allOnes rfl rfl
  | ldrt => exact decode_encSingle (mk := fun c u _ => .ldrt c u) and_allOnes rfl rfl
  | strPost => exact decode_encSingle (mk := fun c u _ => .strPost c u) and_allOnes rfl rfl
  | strt => exact decode_encSingle (mk := fun c u _ => .strt c u) and_allOnes rfl rfl
  | ldrbPost => exact decode_encSingle (mk := fun c u _ => .ldrbPost c u) and_allOnes rfl rfl
  | ldrbt => exact decode_encSingle (mk := fun c u _ => .ldrbt c u) and_allOnes rfl rfl
  | strbPost => exact decode_encSingle (mk := fun c u _ => .strbPost c u) and_allOnes rfl rfl
  | strbt => exact decode_encSingle (mk := fun c u _ => .strbt c u) and_allOnes rfl rfl
  | ldm | stm => exact decode_encBlock rfl rfl
  | b | bl | swi => exact decode_cond_op_field rfl rfl
  | tAddReg | tSubReg | tStrReg | tStrhReg | tStrbReg | tLdsb | tLdrReg | tLdrhReg | tLdrbReg | tLdsh =>
    exact decode_enc333_reg rfl rfl
  | tAddImm3 | tSubImm3 => exact decode_enc333_imm rfl rfl
  | tLslImm | tLsrImm | tAsrImm | tStrImm | tLdrImm | tStrbImm | tLdrbImm | tStrhImm | tLdrhImm => exact decode_enc533 rfl rfl
  | tMovImm | tCmpImm | tAddImm8 | tSubImm8 | tLdrPc | tStrSp | tLdrSp | tAddPc | tAddSp | tStmia | tLdmia =>
    exact decode_enc38 rfl rfl
  | tAnd | tEor | tLslReg | tLsrReg | tAsrReg | tAdc | tSbc | tRor | tTst | tNeg | tCmpReg | tCmn | tOrr | tMul | tBic | tMvn =>
    exact decode_encAlu rfl rfl
  | tAddHi | tCmpHi | tMovHi => exact decode_encHi rfl rfl
  | tBx => exact decode_encode_tBx
  | tAddSpImm | tSubSpImm | tSwi | tB | tBlHi | tBlLo =>
    exact decode_op_field (append_and_append and_allOnes and_zero) extractLsb'_append_eq_right rfl rfl
  | tPush | tPop => exact decode_op_flag_field rfl rfl
  | undMulSwap w =>
    obtain ⟨hw, hes⟩ := (wf_undMulSwap w).mp hwf
    exact decode_arm_row rfl (Pattern.holds_iff.mp hw) hes
  | undPsr w =>
    obtain ⟨hw, hes⟩ := (wf_undPsr w).mp hwf
    exact decode_arm_row rfl (Pattern.holds_iff.mp hw) hes
  | undHalfword | undMsrImm | und011 | undCopTransfer | undCopOp => exact decode_arm_anomaly hwf rfl rfl rfl
  | tUndB1 | tUndB2 | tUndB6 | tUndB8 | tUndBE | tUndDE | tUndE8 => exact decode_thumb_anomaly hwf rfl rfl rfl
  | tBcond => exact decode_encode_tBcond hwf

/-! ### Every word, row by row -/

/-- What a row builds is of the row's set, with the word's condition. -/
theorem armRows_build :
    armRows.Forall fun r => ∀ w, (∃ v, encode (r.build w) = .arm v) ∧ condOf (r.build w) = some (armCond w) := by
  repeat' first | exact fun _ => ⟨⟨_, rfl⟩, rfl⟩ | constructor

/-- A row without a check builds what is well-formed; of the anomalies, all but two have no check beside their row's mask. -/
theorem armRows_wf : armRows.zipIdx.Forall fun r => ∀ w, r.1.pattern.holds w = true →
    (∀ e ∈ armExcluded r.2, e.holds w = false) → (r.1.build w).wf = true := by
  repeat' first
    | exact fun _ _ _ => rfl
    | exact fun _ h _ => h
    | exact fun w h hes => (wf_undMulSwap w).mpr ⟨h, hes⟩
    | exact fun w h hes => (wf_undPsr w).mpr ⟨h, hes⟩
    | constructor

/-- What a row builds is of the row's set; its constructor's number is that of the row, after the 88 ARM rows. -/
theorem thumbRows_build : thumbRows.zipIdx.Forall fun r => ∀ h, (∃ v, encode (r.1.build h) = .thumb v) ∧
    (r.1.build h).ctorIdx = r.2 + 88 := by
  repeat' first | exact fun _ => ⟨⟨_, rfl⟩, rfl⟩ | constructor

/-- The words that reach the row of the conditional branch. -/
theorem bcond_word {h : Half} (hr : (⟨0xF000, 0xD000⟩ : Pattern 16).holds h = true) (hes : ∀ e ∈ thumbExcluded 63, e.holds h = false) :
    h.extractLsb' 12 4 = 0xD ∧ isThumbCond (condOfBits (h.extractLsb' 8 4)) = true := by
  obtain ⟨a, b, k, rfl⟩ := half_eq_append h
  have ha : ∀ a : BitVec 4, a ++ 0#4 ++ 0#8 = 0xD000 → a = 0xD := by decide
  obtain rfl := ha a ((and_top_nibble a b k).symm.trans (Pattern.holds_iff.mp hr))
  have hcond := (bcond_excluded_iff b k).mp hes
  simp (disch := decide) only [BitVec.extractLsb'_append_eq_of_le, BitVec.extractLsb'_append_eq_of_add_le]
  simpa using hcond

theorem thumbRows_wf : thumbRows.zipIdx.Forall fun r => ∀ h, r.1.pattern.holds h = true →
    (∀ e ∈ thumbExcluded r.2, e.holds h = false) → (r.1.build h).wf = true := by
  repeat' first
    | exact fun _ _ _ => rfl
    | exact fun _ h _ => h
    | exact fun _ h hes => (bcond_word h hes).2
    | constructor

theorem forall_zipIdx_getElem? {α : Type} {l : List α} {P : α × Nat → Prop} (h : l.zipIdx.Forall P) {n : Nat} {a : α}
    (hn : l[n]? = some a) : P (a, n) :=
  List.forall_iff_forall_mem.mp h _ (List.mem_zipIdx_iff_getElem?.mpr hn)

/-- Settles O7: every word reaches a row, and what the row builds is well-formed and of its set. -/
theorem everyWordDecodesWellFormed : Obligations.EveryWordDecodesWellFormed := by
  constructor
  · intro w
    obtain ⟨n, r, hn, hr, hes, hd⟩ := exists_armRow w
    have hset := List.forall_iff_forall_mem.mp armRows_build r (List.mem_of_getElem? hn) w
    exact ⟨_, hd, forall_zipIdx_getElem? armRows_wf hn w hr hes, hset.1⟩
  · intro h
    obtain ⟨n, r, hn, hr, hes, hd⟩ := exists_thumbRow h
    exact ⟨_, hd, forall_zipIdx_getElem? thumbRows_wf hn h hr hes, (forall_zipIdx_getElem? thumbRows_build hn h).1⟩

theorem condOf_decode_arm {w : Word} {i : Instr} (h : decode (.arm w) = some i) : condOf i = some (armCond w) := by
  obtain ⟨n, r, hn, -, -, hd⟩ := exists_armRow w
  obtain rfl := Option.some.inj (hd.symm.trans h)
  exact (List.forall_iff_forall_mem.mp armRows_build r (List.mem_of_getElem? hn) w).2

/-- The row that built a conditional branch is known by the constructor's number. -/
theorem decode_thumb_eq_tBcond {h : Half} {c : Cond} {off : BitVec 8} (hd : decode (.thumb h) = some (.tBcond c off)) :
    h.extractLsb' 12 4 = 0xD ∧ (h.extractLsb' 8 4).toNat < 14 ∧ c = condOfBits (h.extractLsb' 8 4) ∧ off = h.extractLsb' 0 8 := by
  obtain ⟨n, r, hn, hr, hes, hd'⟩ := exists_thumbRow h
  have hbuild : r.build h = .tBcond c off := Option.some.inj (hd'.symm.trans hd)
  have hidx := (forall_zipIdx_getElem? thumbRows_build hn h).2
  rw [hbuild] at hidx
  obtain rfl : 63 = n := Nat.add_right_cancel (m := 88) hidx
  obtain rfl : _ = r := Option.some.inj hn
  obtain ⟨htop, hcond⟩ := bcond_word hr hes
  obtain ⟨rfl, rfl⟩ := Instr.tBcond.inj hbuild
  exact ⟨htop, (isThumbCond_condOfBits _).mp hcond, rfl, rfl⟩

theorem decode_tBcond_word {b : BitVec 4} (hb : b.toNat < 14) (k : BitVec 8) :
    decode (.thumb (0xD#4 ++ b ++ k)) = some (.tBcond (condOfBits b) k) := by
  have h := decode_encode_tBcond (k := k) ((isThumbCond_condOfBits b).mpr hb)
  rwa [encode, condBits_condOfBits] at h

/-- Settles O22: the flags each condition tests, the word's condition from its row, and the words of the branch and of SWI from O6. -/
theorem conditionTable : Obligations.ConditionTable := by
  intro p
  refine ⟨?_, ?_, ?_, ?_, ?_, ?_, ?_, ?_, ?_, ?_, ?_, ?_, ?_, ?_, rfl, rfl, rfl, fun w i => condOf_decode_arm,
    fun h c off => decode_thumb_eq_tBcond, fun k => ⟨fun b hb => decode_tBcond_word hb k, decodeOfEncodeIsIdentity (.tSwi k) rfl⟩⟩
  all_goals simp [condPass]

/-- Settles O5: each of the words is what the encoder writes for the instruction. -/
theorem encodedWordsDecode : Obligations.EncodedWordsDecode := by
  have decode_of_encode {code : Code} {i : Instr} (hwf : i.wf = true) (hi : encode i = code) : decode code = some i :=
    hi ▸ decodeOfEncodeIsIdentity i hwf
  and_intros <;> exact decode_of_encode rfl rfl

end Sys2Proof.Claims
end

section
/-! The barrel shifter as arithmetic on integers (40 R401 to R404). -/

namespace Sys2Proof.Claims

open Sys2Proof.Machine

/-- 40 R401: LSL drops the bits from 2^32 on, and the lowest of them is the carry. -/
theorem lslOut_eq (m : Word) {n : Nat} (hn : 1 ≤ n) (cin : Bool) :
    lslOut m n cin = (m <<< n, (m.toNat * 2 ^ n).testBit 32) := by
  have hc : (m.toNat * 2 ^ n).testBit 32 = (decide (n ≤ 32) && m.getLsbD (32 - n)) := by
    rw [Nat.testBit_mul_two_pow, BitVec.testBit_toNat]
  unfold lslOut
  rw [hc, if_neg (by omega)]
  obtain h | rfl | h : n < 32 ∨ n = 32 ∨ 32 < n := by omega
  · simp [h, h.le]
  · simp
  · rw [if_neg (by omega), if_neg (by omega), BitVec.shiftLeft_eq_zero h.le]
    simp [h]

/-- 40 R402: LSR drops the bits below 2^n, and the highest of them is the carry. -/
theorem lsrOut_eq (m : Word) {n : Nat} (hn : 1 ≤ n) (cin : Bool) :
    lsrOut m n cin = (m >>> n, m.getLsbD (n - 1)) := by
  unfold lsrOut
  rw [if_neg (by omega)]
  obtain h | rfl | h : n < 32 ∨ n = 32 ∨ 32 < n := by omega
  · rw [if_pos h]
  · rw [BitVec.ushiftRight_eq_zero (Nat.le_refl 32)]; rfl
  · rw [if_neg (by omega), if_neg (by omega), BitVec.ushiftRight_eq_zero h.le, BitVec.getLsbD_of_ge _ _ (by omega)]
    rfl

/-- An arithmetic shift repeats the sign above bit 31. -/
theorem getLsbD_sshiftRight_word (m : Word) (n : Nat) {i : Nat} (hi : i < 32) :
    (m.sshiftRight n).getLsbD i = m.getLsbD (min (n + i) 31) := by
  rw [BitVec.getLsbD_sshiftRight, BitVec.msb_eq_getLsbD_last, decide_eq_false (by omega), Bool.not_false, Bool.true_and]
  split
  case isTrue h => rw [Nat.min_eq_left (by omega)]
  case isFalse h => rw [Nat.min_eq_right (by omega)]

theorem sshiftRight_of_le {m : Word} {n : Nat} (hn : 32 ≤ n) :
    m.sshiftRight n = if m.getLsbD 31 then 0xFFFFFFFF else 0 := by
  refine BitVec.eq_of_getLsbD_eq fun i hi => ?_
  rw [getLsbD_sshiftRight_word m n hi, Nat.min_eq_right (by omega)]
  cases m.getLsbD 31 with
  | true => exact (decide_eq_true hi).symm.trans BitVec.getLsbD_allOnes.symm
  | false => exact BitVec.getLsbD_zero.symm

/-- 40 R403: ASR extends the sign without end, so that its carry is the last bit it drops for every amount. -/
theorem asrOut_eq (m : Word) {n : Nat} (hn : 1 ≤ n) (cin : Bool) :
    asrOut m n cin = (m.sshiftRight n, (m.sshiftRight (n - 1)).getLsbD 0) := by
  unfold asrOut
  rw [if_neg (by omega), getLsbD_sshiftRight_word _ _ (by decide), Nat.add_zero]
  split
  case isTrue h => rw [Nat.min_eq_left (by omega)]
  case isFalse h => rw [Nat.min_eq_right (by omega), sshiftRight_of_le (by omega)]

theorem getLsbD_rotateRight_word (m : Word) (n : Nat) {i : Nat} (hi : i < 32) :
    (m.rotateRight n).getLsbD i = m.getLsbD ((i + n) % 32) := by
  rw [BitVec.getLsbD_rotateRight]
  by_cases h : i < 32 - n % 32
  · rw [show (i + n) % 32 = n % 32 + i by omega]; simp [h]
  · rw [show (i + n) % 32 = i - (32 - n % 32) by omega]; simp [h, hi]

/-- 40 R404: the carry of ROR is the bit it moves to the top. -/
theorem rorOut_eq (m : Word) {n : Nat} (hn : 1 ≤ n) (cin : Bool) :
    rorOut m n cin = (m.rotateRight n, m.getLsbD ((n + 31) % 32)) := by
  unfold rorOut rorWord
  rw [if_neg (by omega)]
  split
  case isTrue h =>
    have hrot : m.rotateRight n = m := BitVec.eq_of_getLsbD_eq fun i hi => by
      rw [getLsbD_rotateRight_word m n hi, show (i + n) % 32 = i by omega]
    rw [hrot, show (n + 31) % 32 = 31 by omega]
  case isFalse h => rw [BitVec.rotateRight_mod_eq_rotateRight, show (n + 31) % 32 = n % 32 - 1 by omega]

theorem getLsbD_zero_eq_toInt_odd (m : Word) : m.getLsbD 0 = decide (m.toInt % 2 = 1) := by
  rw [← BitVec.testBit_toNat, Nat.testBit_zero, decide_eq_decide, BitVec.toInt_eq_toNat_cond]
  split <;> omega

theorem toInt_sshiftRight_eq_div (m : Word) (n : Nat) : (m.sshiftRight n).toInt = m.toInt / 2 ^ n := by
  rw [BitVec.toInt_sshiftRight, Int.shiftRight_eq_div_pow]
  push_cast
  rfl

/-- Settles O24: each shift as the library's shift of words, whose value is a product, a quotient or a rotation. -/
theorem barrelShifterIsExact : Obligations.BarrelShifterIsExact := by
  intro m n cin
  refine ⟨fun sh => by cases sh <;> rfl, fun hn => ?_, fun i hi => ?_, ?_, rfl⟩
  · have hlsl : shiftByAmount .lsl m n cin = _ := lslOut_eq m hn cin
    have hlsr : shiftByAmount .lsr m n cin = _ := lsrOut_eq m hn cin
    have hasr : shiftByAmount .asr m n cin = _ := asrOut_eq m hn cin
    have hror : shiftByAmount .ror m n cin = _ := rorOut_eq m hn cin
    rw [hlsl, hlsr, hasr, hror]
    refine ⟨?_, rfl, ?_, m.testBit_toNat.symm, toInt_sshiftRight_eq_div m n, ?_, fun i => getLsbD_rotateRight_word m n, rfl⟩
    · rw [BitVec.toNat_shiftLeft, Nat.shiftLeft_eq]
    · rw [BitVec.toNat_ushiftRight, Nat.shiftRight_eq_div_pow]
    · rw [getLsbD_zero_eq_toInt_odd, toInt_sshiftRight_eq_div]
  · rw [rrxOut, BitVec.getLsbD_append, if_pos hi, BitVec.getLsbD_extractLsb']
    simp [hi, Nat.add_comm]
  · rw [rrxOut, BitVec.getLsbD_append, if_neg (by omega)]
    simp

end Sys2Proof.Claims
end

section
/-! Data processing beside exact arithmetic, and PSR restores (40 R409 to R428; 10 R116). -/

namespace Sys2Proof.Claims

open Sys2Proof.Machine

/-! ### Logical operations (40 R409) -/

/-- A logical operation gives the bitwise result, the shifter's carry and the old V. -/
theorem alu_logical_eq {op : DpOp} (h : isLogical op = true) (a m : Word) (shc : Bool) (p : Cpsr) :
    alu op a m shc p = logicOut (logicalValue op a m) shc p := by
  cases op with
  | and | eor | tst | teq | orr | mov | bic | mvn => rfl
  | sub | rsb | add | adc | sbc | rsc | cmp | cmn => cases h

/-- Settles O25: the template's end, with the bitwise result and the shifter's carry. -/
theorem logicalDataProcessing : Obligations.LogicalDataProcessing := by
  intro op f c sf rn rd s hlogic hc hshift hrestore
  rw [exec_dpInstr_runs hc hshift, alu_logical_eq hlogic]
  exact dpFinish_completes hrestore _ s

/-! ### PSR restores (10 R116; 40 R412) -/

theorem alu_value (op : DpOp) (a m : Word) (shc : Bool) (p : Cpsr) : (alu op a m shc p).value = dpValue op a m p.c := by
  unfold dpValue
  split
  case isTrue h => rw [alu_logical_eq h]; rfl
  case isFalse h => rw [alu_arithmetic (Bool.eq_false_of_not_eq_true h)]

theorem bits_of_ofBits? {b : BitVec 5} {m : Mode} (h : Mode.ofBits? b = some m) : m.bits = b := by
  revert h; revert m; revert b; decide

theorem ofBits?_bits (m : Mode) : Mode.ofBits? m.bits = some m := by cases m <;> rfl

/-- A status survives being saved. -/
theorem toCpsr?_toPsr (p : Cpsr) : p.toPsr.toCpsr? = some p := by
  unfold Psr.toCpsr?
  rw [Cpsr.toPsr, ofBits?_bits]

/-- The status that a legal saved one restores is the same one. -/
theorem exists_toCpsr? {p : Psr} {m : Mode} (h : Mode.ofBits? p.m = some m) : ∃ c, p.toCpsr? = some c ∧ c.toPsr = p := by
  unfold Psr.toCpsr?
  rw [h]
  exact ⟨_, rfl, by rw [Cpsr.toPsr, bits_of_ofBits? h]⟩

theorem exc?_eq_none {m : Mode} (h : noSpsrMode m = true) : m.exc? = none := by simpa [noSpsrMode_eq] using h

section
variable {s : State} {e : Exc}

theorem psrRestore_of_none (h : s.cpsr.mode.exc? = none) (v : Word) : s.psrRestore v = .fault .noSpsrRestore := by
  unfold State.psrRestore; rw [h]

theorem psrRestore_of_illegal (he : s.cpsr.mode.exc? = some e) (h : (s.spsrOf e).toCpsr? = none) (v : Word) :
    s.psrRestore v = .fault .invalidMode := by
  unfold State.psrRestore; rw [he]; dsimp only; rw [h]

theorem psrRestore_of_legal {c : Cpsr} (he : s.cpsr.mode.exc? = some e) (h : (s.spsrOf e).toCpsr? = some c) (v : Word) :
    s.psrRestore v = .next ((s.setCpsr c).setPc (if c.t then align2 v else align4 v)) := by
  unfold State.psrRestore; rw [he]; dsimp only; rw [h]

/-- A status that was saved is restored as it was. -/
theorem psrRestore_of_saved {c : Cpsr} (he : s.cpsr.mode.exc? = some e) (h : s.spsrOf e = c.toPsr) (v : Word) :
    s.psrRestore v = .next ((s.setCpsr c).setPc (if c.t then align2 v else align4 v)) :=
  psrRestore_of_legal he (h ▸ toCpsr?_toPsr c) v

end

/-- An operation that writes Rd, with S = 1 and Rd = 15, ends in a PSR restore to its result. -/
theorem exec_dpInstr_restores {op : DpOp} {f : DpForm} {c : Cond} {rn : Reg} {s : State} (hw : writesRd op = true)
    (hc : condPass c s.cpsr = true) (hshift : shiftNamesR15 op f rn 15 = false) :
    exec (dpInstr op f c true rn 15) s = s.psrRestore (dpValue op (s.regArm rn) (operand2 s f).1 s.cpsr.c) := by
  rw [exec_dpInstr_runs hc hshift, ← alu_value, dpFinish, isTest_eq_not_writesRd, hw]
  rfl

/-- Settles O27: the PSR restore of 10 R116, in its three cases. -/
theorem dataProcessingPsrRestore : Obligations.DataProcessingPsrRestore := by
  intro op f c rn s hw hc hshift
  rw [exec_dpInstr_restores hw hc hshift]
  refine ⟨fun hm => psrRestore_of_none (exc?_eq_none hm) _, fun e he => ⟨fun hill => ?_, fun m hm => ?_⟩⟩
  · exact psrRestore_of_illegal he (by rw [Psr.toCpsr?, hill]) _
  · obtain ⟨p, hp, hpsr⟩ := exists_toCpsr? hm
    refine ⟨_, psrRestore_of_legal he hp _, ⟨hpsr, ?_⟩, rfl⟩
    rw [← hpsr]
    show (if p.t then align2 _ else align4 _) = _ &&& if p.t then _ else _
    cases p.t <;> rfl

/-! ### The return from an exception (60 R920, R921) -/

/-- Entering an exception writes R14 of its mode alone. -/
theorem takeException_greg (s : State) (e : Exc) (ret vector : Word) (g : GReg) :
    (s.takeException e ret vector).greg g = if g = .lr e.bank then ret else s.greg g :=
  State.greg_setGreg _ _ _ _

/-- Entering an exception writes the SPSR of its mode alone. -/
theorem takeException_spsrOf (s : State) (e : Exc) (ret vector : Word) (e' : Exc) :
    (s.takeException e ret vector).spsrOf e' = if e' = e then s.cpsr.toPsr else s.spsrOf e' :=
  State.spsrOf_setSpsr s e e' s.cpsr.toPsr

theorem align_pc_of_pcAligned {s : State} (h : s.pcAligned = true) :
    (if s.cpsr.t then align2 s.pc else align4 s.pc) = s.pc := by
  have ha := (pcAligned_iff s).mp h
  split
  case isTrue ht => exact align2_of_aligned (ht ▸ ha)
  case isFalse ht => exact align4_of_aligned (Bool.eq_false_of_not_eq_true ht ▸ ha)

/-- SUBS PC, R14, #4 restores to the address before the one in R14. -/
theorem exec_subs_pc_lr_four (s : State) : exec (.subImm .al true 14 15 0 4) s = s.psrRestore (s.regArm 14 - 4) := by
  have hvalue : dpValue .sub (s.regArm 14) (operand2 s (.imm 0 4)).1 s.cpsr.c = s.regArm 14 - 4 := by
    rw [← alu_value (shc := false)]
    exact BitVec.sub_zero _
  rw [← hvalue]
  exact exec_dpInstr_restores (op := .sub) (f := .imm 0 4) rfl rfl rfl

/-- Settles O13: the entry has saved the status and the address that the restore puts back. -/
theorem irqHandlerReturnResumes : Obligations.IrqHandlerReturnResumes := by
  intro s haligned
  have hret : s.irqEntry.regArm 14 - 4 = s.pc := by
    have hlr : s.irqEntry.regArm 14 = s.pc + 4 := takeException_greg s .irq _ _ (.lr .irq)
    rw [hlr, BitVec.add_sub_cancel]
  have hsaved : s.irqEntry.spsrOf .irq = s.cpsr.toPsr := takeException_spsrOf s .irq _ _ .irq
  rw [exec_subs_pc_lr_four, hret]
  refine ⟨_, psrRestore_of_saved rfl hsaved _, align_pc_of_pcAligned haligned, rfl, fun g hg => ?_, fun e he => ?_, rfl, rfl, rfl, rfl⟩
  · exact (takeException_greg s .irq _ irqVector g).trans (if_neg hg)
  · exact (takeException_spsrOf s .irq (s.pc + 4) irqVector e).trans (if_neg he)

end Sys2Proof.Claims
end

section
/-! PSR transfer: what MRS reads, and what MSR writes from either operand form (40 R431 to R434). -/

namespace Sys2Proof.Claims

open Sys2Proof.Machine

/-- A number other than 15 reads alike whatever the PC offset. -/
theorem regArm_eq_reg (s : State) {n : Reg} (hn : n ≠ 15) : s.regArm n = reg s n := by
  obtain ⟨g, hg⟩ := bank_gen s.cpsr.mode hn
  unfold State.regArm reg
  rw [State.regOf_gen _ _ hg, State.regOf_gen _ _ hg]

@[simp] theorem setReg_cpsr (s : State) (n : Reg) (v : Word) : (s.setReg n v).cpsr = s.cpsr := by
  unfold State.setReg State.setRegOf
  split <;> rfl

@[simp] theorem setReg_pc (s : State) (n : Reg) (v : Word) : (s.setReg n v).pc = s.pc := by
  unfold State.setReg State.setRegOf
  split <;> rfl

theorem reg_advancePc (s : State) (len : Word) {n : Reg} (hn : n ≠ 15) : reg (s.advancePc len) n = reg s n := by
  obtain ⟨g, hg⟩ := bank_gen s.cpsr.mode hn
  unfold reg
  rw [State.advancePc_cpsr, State.regOf_gen _ _ hg, State.regOf_gen _ _ hg]
  rfl

theorem reg_setReg_self (s : State) {n : Reg} (hn : n ≠ 15) (v : Word) : reg (s.setReg n v) n = v := by
  unfold reg
  rw [setReg_cpsr]
  unfold State.setReg
  rw [State.regOf_setRegOf s _ _ n n v 0 hn hn, if_pos rfl]

/-! ### MRS (40 R431) -/

theorem mrsValue_true (s : State) : mrsValue true s = s.cpsr.mode.exc?.map fun e => (s.spsrOf e).toWord := rfl

/-- MRS of a status word that there is. -/
theorem execMrs_completes {c : Cond} {r : Bool} {rd : Reg} {s : State} {v : Word} (hc : condPass c s.cpsr = true)
    (hrd : rd ≠ 15) (hv : mrsValue r s = some v) :
    Completes (exec (.mrs c r rd) s) fun t => reg t rd = v ∧ t.pc = s.pc + 4 ∧ t.cpsr = s.cpsr := by
  have hexec : exec (.mrs c r rd) s = .next ((s.setReg rd v).advancePc 4) := by
    show execMrs c r rd s = _
    rw [execMrs, armIf, if_pos hc, if_neg hrd, hv]
  refine ⟨_, hexec, ?_, ?_, setReg_cpsr s rd v⟩
  · exact (reg_advancePc _ 4 hrd).trans (reg_setReg_self s hrd v)
  · rw [State.advancePc_pc, setReg_pc]

/-- Settles O28: the word that MRS reads in each case. -/
theorem mrsReadsStatus : Obligations.MrsReadsStatus := by
  intro c rd s hc hrd
  refine ⟨execMrs_completes hc hrd rfl, fun e he => execMrs_completes hc hrd (by rw [mrsValue_true, he]; rfl), fun hm => ?_⟩
  have hv : mrsValue true s = none := by rw [mrsValue_true, exc?_eq_none hm]; rfl
  show execMrs c true rd s = _
  rw [execMrs, armIf, if_pos hc, if_neg hrd, hv]

/-! ### The operand of MSR (40 R432, R434) -/

/-- Both forms of MSR write their operand in one way. -/
theorem exec_msr {i : Instr} {c : Cond} {r : Bool} {mask : BitVec 4} {v : Word} {s : State}
    (hi : (∃ rm, rm ≠ 15 ∧ i = .msrReg c r mask rm ∧ v = reg s rm) ∨
      ∃ rot imm8, i = .msrImm c r mask rot imm8 ∧ v = (imm8.setWidth 32).rotateRight (2 * rot.toNat))
    (hc : condPass c s.cpsr = true) : exec i s = msr r mask v s := by
  obtain ⟨rm, hrm, rfl, rfl⟩ | ⟨rot, imm8, rfl, rfl⟩ := hi
  · show execMsrReg c r mask rm s = _
    rw [execMsrReg, armIf, if_pos hc, if_neg (by simp [hrm]), regArm_eq_reg s hrm]
  · show execMsrImm c r mask rot imm8 s = _
    rw [execMsrImm, armIf, if_pos hc, rotImm_eq]

/-! ### MSR of the CPSR (40 R432) -/

/-- The status that MSR writes: the flags under bit 3 of the mask, and I, F and the mode as given. -/
def msrStatus (mask : BitVec 4) (v : Word) (p : Cpsr) (i f : Bool) (m : Mode) : Cpsr :=
  { (if mask.getLsbD 3 then p.withNzcv (v.getLsbD 31) (v.getLsbD 30) (v.getLsbD 29) (v.getLsbD 28) else p) with
    i := i, f := f, mode := m }

theorem msrStatus_completes (mask : BitVec 4) (v : Word) (s : State) (i f : Bool) (m : Mode) :
    Completes (.next ((s.setCpsr (msrStatus mask v s.cpsr i f m)).advancePc 4)) fun t =>
      (if mask.getLsbD 3 then FlagsAre t (v.getLsbD 31) (v.getLsbD 30) (v.getLsbD 29) (v.getLsbD 28)
        else FlagsAre t s.cpsr.n s.cpsr.z s.cpsr.c s.cpsr.v) ∧
      t.cpsr.i = i ∧ t.cpsr.f = f ∧ t.cpsr.t = s.cpsr.t ∧ t.cpsr.mode = m ∧ t.pc = s.pc + 4 := by
  unfold msrStatus
  split
  · exact ⟨_, rfl, ⟨rfl, rfl, rfl, rfl⟩, rfl, rfl, rfl, rfl, rfl⟩
  · exact ⟨_, rfl, ⟨rfl, rfl, rfl, rfl⟩, rfl, rfl, rfl, rfl, rfl⟩

section
variable {mask : BitVec 4} {s : State}

/-- The control byte is written under bit 0 of the mask, out of User mode. -/
theorem msrCpsr_flagsOnly (h : mask.getLsbD 0 = false ∨ s.cpsr.mode = .usr) (v : Word) :
    msrCpsr mask v s = .next ((s.setCpsr (msrStatus mask v s.cpsr s.cpsr.i s.cpsr.f s.cpsr.mode)).advancePc 4) := by
  have hctl : ¬(mask.getLsbD 0 && s.cpsr.mode.privileged) = true := by
    rw [privileged_eq]
    obtain h | h := h
    · rw [h]; exact Bool.false_ne_true
    · simp [h]
  rw [msrCpsr, if_neg hctl, msrStatus]
  split <;> rfl

variable (h0 : mask.getLsbD 0 = true) (hm : s.cpsr.mode ≠ .usr) {v : Word}
include h0 hm

theorem control_selected : (mask.getLsbD 0 && s.cpsr.mode.privileged) = true := by
  rw [privileged_eq, h0, decide_eq_false hm]; rfl

theorem msrCpsr_tChange (ht : v.getLsbD 5 ≠ s.cpsr.t) : msrCpsr mask v s = .fault .msrTChange := by
  rw [msrCpsr, if_pos (control_selected h0 hm), if_pos (bne_iff_ne.mpr ht)]

theorem msrCpsr_illegal (ht : v.getLsbD 5 = s.cpsr.t) (hb : Mode.ofBits? (v.extractLsb' 0 5) = none) :
    msrCpsr mask v s = .fault .invalidMode := by
  rw [msrCpsr, if_pos (control_selected h0 hm), if_neg (by simpa using ht), hb]

theorem msrCpsr_control {m : Mode} (ht : v.getLsbD 5 = s.cpsr.t) (hb : Mode.ofBits? (v.extractLsb' 0 5) = some m) :
    msrCpsr mask v s = .next ((s.setCpsr (msrStatus mask v s.cpsr (v.getLsbD 7) (v.getLsbD 6) m)).advancePc 4) := by
  rw [msrCpsr, if_pos (control_selected h0 hm), if_neg (by simpa using ht), hb, msrStatus]

end

/-- Settles O29: MSR of the CPSR in its four cases, and R15 as its operand. -/
theorem msrWritesCpsr : Obligations.MsrWritesCpsr := by
  refine ⟨fun i c mask v s hi hc => ?_, fun c mask s hc => ?_⟩
  · rw [exec_msr hi hc, msr, if_neg Bool.false_ne_true]
    refine ⟨fun h => ?_, fun h0 hm => msrCpsr_tChange h0 hm, fun h0 hm => msrCpsr_illegal h0 hm, fun m h0 hm ht hb => ?_⟩
    · rw [msrCpsr_flagsOnly h]
      exact msrStatus_completes mask v s _ _ _
    · rw [msrCpsr_control h0 hm ht hb]
      exact msrStatus_completes mask v s _ _ m
  · show execMsrReg c false mask 15 s = _
    rw [execMsrReg, armIf, if_pos hc]
    rfl

/-! ### MSR of an SPSR (40 R433) -/

theorem msrSpsr_of_none {s : State} (h : s.cpsr.mode.exc? = none) (mask : BitVec 4) (v : Word) :
    msrSpsr mask v s = .fault .noSpsr := by
  rw [msrSpsr, h]

theorem msrSpsr_of_exc {s : State} {e : Exc} (h : s.cpsr.mode.exc? = some e) (mask : BitVec 4) (v : Word) :
    msrSpsr mask v s = .next ((s.setSpsr e (msrPsr mask v (s.spsrOf e))).advancePc 4) := by
  rw [msrSpsr, h]

/-- A saved status with the flags of one and the control bits of another. -/
def mergePsr (p q : Psr) : Psr := { q with n := p.n, z := p.z, c := p.c, v := p.v }

theorem toWord_mergePsr (p q : Psr) :
    (mergePsr p q).toWord = (p.toWord &&& 0xF0000000) ||| (q.toWord &&& 0x000000FF) := by
  refine BitVec.eq_of_getLsbD_eq fun i hi => ?_
  simp only [mergePsr, Psr.toWord, BitVec.getLsbD_or, BitVec.getLsbD_and, BitVec.getLsbD_append, BitVec.getLsbD_ofBool]
  interval_cases i <;> simp

theorem toWord_ofWord (v : Word) : (Psr.ofWord v).toWord = v &&& 0xF00000FF := by
  refine BitVec.eq_of_getLsbD_eq fun i hi => ?_
  simp only [Psr.ofWord, Psr.toWord, BitVec.getLsbD_and, BitVec.getLsbD_append, BitVec.getLsbD_extractLsb', BitVec.getLsbD_ofBool]
  interval_cases i <;> simp

theorem msrPsr_eq_mergePsr (mask : BitVec 4) (v : Word) (p : Psr) :
    msrPsr mask v p =
      mergePsr (if mask.getLsbD 3 then Psr.ofWord v else p) (if mask.getLsbD 0 then Psr.ofWord v else p) := by
  unfold msrPsr
  cases mask.getLsbD 3 <;> cases mask.getLsbD 0 <;> rfl

/-- MSR of an SPSR takes the flags and the control byte of its operand, each under a bit of the mask. -/
theorem toWord_msrPsr (mask : BitVec 4) (v : Word) (p : Psr) :
    (msrPsr mask v p).toWord = ((if mask.getLsbD 3 then v else p.toWord) &&& 0xF0000000) |||
      ((if mask.getLsbD 0 then v else p.toWord) &&& 0x000000FF) := by
  have hword (b : Bool) (k : Word) (hk : 0xF00000FF &&& k = k) :
      (if b then Psr.ofWord v else p).toWord &&& k = (if b then v else p.toWord) &&& k := by
    cases b with
    | false => rfl
    | true => exact (congrArg (· &&& k) (toWord_ofWord v)).trans ((BitVec.and_assoc ..).trans (congrArg (v &&& ·) hk))
  rw [msrPsr_eq_mergePsr, toWord_mergePsr, hword _ _ rfl, hword _ _ rfl]

/-- Settles O30: MSR of an SPSR with and without one, and R15 as its operand. -/
theorem msrWritesSpsr : Obligations.MsrWritesSpsr := by
  refine ⟨fun i c mask v s hi hc => ?_, fun c mask s hc => ?_⟩
  · rw [exec_msr hi hc, msr, if_pos rfl]
    refine ⟨fun hm => msrSpsr_of_none (exc?_eq_none hm) mask v, fun e he => ?_⟩
    refine ⟨_, msrSpsr_of_exc he mask v, ?_, fun e' he' => ?_, rfl, rfl⟩
    · rw [State.spsrOf_advancePc, State.spsrOf_setSpsr, if_pos rfl, toWord_msrPsr]
    · rw [State.spsrOf_advancePc, State.spsrOf_setSpsr, if_neg he']
  · show execMsrReg c true mask 15 s = _
    rw [execMsrReg, armIf, if_pos hc, noSpsrMode_eq]
    cases he : s.cpsr.mode.exc? with
    | none => exact msrSpsr_of_none he mask _
    | some e => rfl

end Sys2Proof.Claims
end

section
/-! Multiplies: the products as exact integers modulo 2^32 and 2^64, and the flags with their free bits (41 R450 to R455). -/

namespace Sys2Proof.Claims

open Sys2Proof.Machine

theorem reg_setReg_of_ne (s : State) {n m : Reg} (hn : n ≠ 15) (hm : m ≠ 15) (hne : m ≠ n) (v : Word) :
    reg (s.setReg n v) m = reg s m := by
  unfold reg
  rw [setReg_cpsr]
  unfold State.setReg
  rw [State.regOf_setRegOf s _ _ n m v 0 hn hm, if_neg fun h => hne (bank_injective h)]

/-! ### MUL and MLA (41 R450, R451) -/

theorem mulFinish_pc (sf : Bool) (rd : Reg) (v : Word) (s : State) : (mulFinish sf rd v s).pc = s.pc + 4 := by
  rw [mulFinish, State.advancePc_pc, setReg_pc]
  cases sf <;> rfl

theorem mulFinish_cpsr (sf : Bool) (rd : Reg) (v : Word) (s : State) : (mulFinish sf rd v s).cpsr =
    if sf then s.cpsr.withResult { value := v, c := Config.any1 .mulCarry s.freeIdx, v := s.cpsr.v } else s.cpsr := by
  rw [mulFinish, State.advancePc_cpsr, setReg_cpsr]
  cases sf <;> rfl

/-- MUL and MLA end with their product where they meet no restriction of 41 R456. -/
theorem mulShort_completes {sf : Bool} {rd rs rm : Reg} {r15 : Bool} (hrd : rd ≠ 15) (hrs : rs ≠ 15) (hrm : rm ≠ 15)
    (hr15 : r15 = false) (hne : rd ≠ rm) (v : Word) (s : State) :
    Completes (mulShort sf rd rs rm r15 v s) fun t => reg t rd = v ∧ t.pc = s.pc + 4 ∧
      (if sf then ResultFlags t (reg t rd) (Config.any1 .mulCarry s.freeIdx) s.cpsr.v else t.cpsr = s.cpsr) := by
  have hreg : reg (mulFinish sf rd v s) rd = v := (reg_advancePc _ 4 hrd).trans (reg_setReg_self _ hrd v)
  have hcpsr := mulFinish_cpsr sf rd v s
  refine ⟨mulFinish sf rd v s, ?_, hreg, mulFinish_pc sf rd v s, ?_⟩
  · simp [mulShort, hrd, hrs, hrm, hr15, hne]
  · rw [hreg]
    cases sf with
    | false => exact hcpsr
    | true => exact resultFlags_withResult (r := ⟨v, Config.any1 .mulCarry s.freeIdx, s.cpsr.v⟩) hcpsr

theorem word_mul_eq_ofNat (a b : Word) : a * b = BitVec.ofNat 32 (a.toNat * b.toNat) := by
  rw [BitVec.ofNat_mul, BitVec.ofNat_toNat, BitVec.ofNat_toNat, BitVec.setWidth_eq, BitVec.setWidth_eq]

theorem word_mul_add_eq_ofNat (a b c : Word) : a * b + c = BitVec.ofNat 32 (a.toNat * b.toNat + c.toNat) := by
  rw [word_mul_eq_ofNat, BitVec.ofNat_add, BitVec.ofNat_toNat 32 c, BitVec.setWidth_eq]

/-- Settles O31: MUL and MLA end alike, each with its product as a number modulo 2^32. -/
theorem shortMultiplies : Obligations.ShortMultiplies := by
  intro c sf rd rn rs rm s hc hrd hrs hrm hne
  refine ⟨?_, fun hrn => ?_⟩
  · show Completes (execMul c sf rd rn rs rm s) _
    rw [execMul, armIf, if_pos hc, regArm_eq_reg s hrm, regArm_eq_reg s hrs, ← word_mul_eq_ofNat]
    exact mulShort_completes hrd hrs hrm rfl hne _ s
  · show Completes (execMla c sf rd rn rs rm s) _
    rw [execMla, armIf, if_pos hc, regArm_eq_reg s hrm, regArm_eq_reg s hrs, regArm_eq_reg s hrn, ← word_mul_add_eq_ofNat]
    exact mulShort_completes hrd hrs hrm (decide_eq_false hrn) hne _ s

/-! ### The long multiplies (41 R452 to R455) -/

theorem mullFinish_pc (sf : Bool) (hi lo : Reg) (p : BitVec 64) (s : State) : (mullFinish sf hi lo p s).pc = s.pc + 4 := by
  rw [mullFinish, State.advancePc_pc, setReg_pc, setReg_pc]
  cases sf <;> rfl

theorem mullFinish_cpsr (sf : Bool) (hi lo : Reg) (p : BitVec 64) (s : State) : (mullFinish sf hi lo p s).cpsr =
    if sf then s.cpsr.withNzcv p.msb (p == 0) (Config.any1 .mullCarry s.freeIdx) (Config.any1 .mullOverflow s.freeIdx)
    else s.cpsr := by
  rw [mullFinish, State.advancePc_cpsr, setReg_cpsr, setReg_cpsr]
  cases sf <;> rfl

/-- RdLo is written before RdHi and is kept by that write, as the two differ. -/
theorem reg_append_reg_mullFinish {hi lo : Reg} (hhi : hi ≠ 15) (hlo : lo ≠ 15) (hne : hi ≠ lo) (sf : Bool) (p : BitVec 64)
    (s : State) : reg (mullFinish sf hi lo p s) hi ++ reg (mullFinish sf hi lo p s) lo = p := by
  unfold mullFinish
  rw [reg_advancePc _ 4 hhi, reg_setReg_self _ hhi, reg_advancePc _ 4 hlo, reg_setReg_of_ne _ hhi hlo hne.symm,
    reg_setReg_self _ hlo]
  exact (BitVec.extractLsb'_append_extractLsb'_eq_extractLsb' rfl).trans BitVec.extractLsb'_eq_self

theorem longResult_mullFinish {hi lo : Reg} (hhi : hi ≠ 15) (hlo : lo ≠ 15) (hne : hi ≠ lo) (sf : Bool) {p : BitVec 64} {x : Int}
    (hp : p = BitVec.ofInt 64 x) (s : State) : LongResult s (mullFinish sf hi lo p s) sf hi lo x := by
  unfold LongResult FlagsAre
  rw [← hp, mullFinish_cpsr]
  refine ⟨reg_append_reg_mullFinish hhi hlo hne sf p s, mullFinish_pc sf hi lo p s, ?_⟩
  cases sf with
  | false => rfl
  | true => exact ⟨BitVec.msb_eq_getLsbD_last p, rfl, rfl, rfl⟩

/-- A long multiply that meets no restriction of 41 R456. -/
theorem mulLong_completes {hi lo rs rm : Reg} (hhi : hi ≠ 15) (hlo : lo ≠ 15) (hrs : rs ≠ 15) (hrm : rm ≠ 15) (hne : hi ≠ lo)
    (hhm : hi ≠ rm) (hlm : lo ≠ rm) (sf : Bool) {p : BitVec 64} {x : Int} (hp : p = BitVec.ofInt 64 x) (s : State) :
    Completes (mulLong sf hi lo rs rm p s) fun t => LongResult s t sf hi lo x :=
  ⟨mullFinish sf hi lo p s, by simp [mulLong, hhi, hlo, hrs, hrm, hne, hhm, hlm], longResult_mullFinish hhi hlo hne sf hp s⟩

section
variable (s : State) {rs rm : Reg} (hrs : rs ≠ 15) (hrm : rm ≠ 15)
include hrs hrm

theorem uProduct_eq_ofInt : uProduct s rs rm = BitVec.ofInt 64 ((reg s rm).toNat * (reg s rs).toNat) := by
  unfold uProduct
  rw [regArm_eq_reg s hrm, regArm_eq_reg s hrs, BitVec.ofInt_mul, BitVec.ofInt_natCast, BitVec.ofInt_natCast,
    BitVec.ofNat_toNat, BitVec.ofNat_toNat]

theorem sProduct_eq_ofInt : sProduct s rs rm = BitVec.ofInt 64 ((reg s rm).toInt * (reg s rs).toInt) := by
  unfold sProduct
  rw [regArm_eq_reg s hrm, regArm_eq_reg s hrs, BitVec.ofInt_mul]
  rfl

end

theorem add_accumulator_eq_ofInt (s : State) {hi lo : Reg} (hhi : hi ≠ 15) (hlo : lo ≠ 15) {p : BitVec 64} {x : Int}
    (hp : p = BitVec.ofInt 64 x) : p + accumulator s hi lo = BitVec.ofInt 64 (x + (reg s hi ++ reg s lo).toNat) := by
  unfold accumulator
  rw [hp, regArm_eq_reg s hhi, regArm_eq_reg s hlo, BitVec.ofInt_add, BitVec.ofInt_natCast, BitVec.ofNat_toNat,
    BitVec.setWidth_eq]

/-- Settles O32: the four long multiplies end alike, each with its exact integer modulo 2^64. -/
theorem longMultiplies : Obligations.LongMultiplies := by
  intro c sf hi lo rs rm s hc hhi hlo hrs hrm hne hhm hlm
  have hends {p : BitVec 64} {x : Int} (hp : p = BitVec.ofInt 64 x) :
      Completes (armIf c s (mulLong sf hi lo rs rm p s)) fun t => LongResult s t sf hi lo x := by
    rw [armIf, if_pos hc]
    exact mulLong_completes hhi hlo hrs hrm hne hhm hlm sf hp s
  have hu := uProduct_eq_ofInt s hrs hrm
  have hs := sProduct_eq_ofInt s hrs hrm
  exact ⟨hends hu, hends (add_accumulator_eq_ofInt s hhi hlo hu), hends hs, hends (add_accumulator_eq_ofInt s hhi hlo hs)⟩

end Sys2Proof.Claims
end

section
/-! Single transfers, halfword transfers and swaps: what is loaded or stored, and the write-back that follows (42 R500 to R524,
R560, R561). -/

namespace Sys2Proof.Claims

open Sys2Proof.Machine

/-! ### Reading a register after an end (10 R107) -/

theorem regOf_congr {s t : State} (h : t.regs = s.regs) (m : Mode) (off : Word) {n : Reg} (hn : n ≠ 15) :
    t.regOf m off n = s.regOf m off n := by
  obtain ⟨g, hg⟩ := bank_gen m hn
  rw [State.regOf_gen _ _ hg, State.regOf_gen _ _ hg, State.greg_congr h]

theorem reg_setPc (s : State) (v : Word) {n : Reg} (hn : n ≠ 15) : reg (s.setPc v) n = reg s n :=
  regOf_congr (State.setPc_regs s v) s.cpsr.mode 0 hn

theorem reg_writeArm_of_ne (s : State) {rd n : Reg} (hn : n ≠ 15) (hne : n ≠ rd) (v : Word) :
    reg (s.writeArm rd v) n = reg s n := by
  unfold State.writeArm
  split
  case h_1 g hg =>
    have hrd : rd ≠ 15 := by rintro rfl; rw [bank_pc] at hg; cases hg
    rw [reg_advancePc _ 4 hn, ← State.setRegOf_gen s v hg]
    exact reg_setReg_of_ne s hrd hn hne v
  case h_2 => exact reg_setPc s _ hn

theorem armWrites_of_ne {s t : State} {rd : Reg} {v : Word} (hrd : rd ≠ 15) :
    ArmWrites s t rd v ↔ reg t rd = v ∧ t.pc = s.pc + 4 := by
  rw [ArmWrites, if_neg hrd]

/-- 10 R106. -/
theorem regOf_eq_ite (s : State) (m : Mode) (off : Word) (n : Reg) :
    s.regOf m off n = if n = 15 then s.pc + off else s.regOf m 0 n := by
  split
  case isTrue h => rw [h, State.regOf_pc]
  case isFalse h =>
    obtain ⟨g, hg⟩ := bank_gen m h
    rw [State.regOf_gen _ _ hg, State.regOf_gen _ _ hg]

theorem Completes.armIf {c : Cond} {s : State} {o : Host.Outcome State Fault Refusal} {P : State → Prop}
    (hc : condPass c s.cpsr = true) (h : Completes o P) : Completes (armIf c s o) P := by
  rw [Machine.armIf, if_pos hc]; exact h

/-! ### Write-back (42 R501) -/

theorem SameUnits.setReg {t u : State} (h : SameUnits t u) (n : Reg) (v : Word) : SameUnits (t.setReg n v) u := by
  unfold State.setReg State.setRegOf
  split
  · exact h
  · exact h

section
variable (s : State) (wb : Bool) (rn : Reg) (v : Word)

@[simp] theorem writeBack_pc : (writeBack s wb rn v).pc = s.pc := by
  cases wb with
  | false => rfl
  | true => exact setReg_pc s rn v

@[simp] theorem writeBack_cpsr : (writeBack s wb rn v).cpsr = s.cpsr := by
  cases wb with
  | false => rfl
  | true => exact setReg_cpsr s rn v

theorem sameUnits_writeBack : SameUnits (writeBack s wb rn v) s := by
  have hrefl : SameUnits s s := ⟨rfl, rfl, rfl, rfl⟩
  cases wb with
  | false => exact hrefl
  | true => exact hrefl.setReg rn v

variable {s wb rn v}

theorem reg_writeBack_self (hwb : wb = true) (hn : rn ≠ 15) : reg (writeBack s wb rn v) rn = v := by
  rw [writeBack, if_pos hwb, reg_setReg_self s hn]

/-- A load ends with its write-back and its destination, which differ. -/
theorem load_completes {rd : Reg} (hn : wb = true → rn ≠ 15 ∧ rn ≠ rd) (d : Word) :
    Completes (.next ((writeBack s wb rn v).writeArm rd d)) fun t =>
      ArmWrites s t rd d ∧ (wb = true → reg t rn = v) ∧ t.cpsr = s.cpsr := by
  refine ⟨_, rfl, armWrites_writeArm (writeBack_pc s wb rn v) rd d, fun hwb => ?_, by simp⟩
  obtain ⟨hn15, hne⟩ := hn hwb
  rw [reg_writeArm_of_ne _ hn15 hne, reg_writeBack_self hwb hn15]

/-- A store ends with its write-back, a free value drawn or not. -/
theorem store_completes {u : State} (hu : OnlyUnits s u) (draws : Bool) (hn : wb = true → rn ≠ 15) :
    Completes (.next ((writeBack (if draws then u.drawn else u) wb rn v).advancePc 4)) fun t =>
      SameUnits t u ∧ (wb = true → reg t rn = v) ∧ t.pc = s.pc + 4 ∧ t.cpsr = s.cpsr := by
  have hback (hwb : wb = true) (x : State) : reg ((writeBack x wb rn v).advancePc 4) rn = v :=
    (reg_advancePc _ 4 (hn hwb)).trans (reg_writeBack_self hwb (hn hwb))
  rw [← hu.pc, ← hu.cpsr]
  cases draws with
  | false =>
    exact ⟨_, rfl, sameUnits_writeBack u wb rn v, fun hwb => hback hwb u, by simp, by simp⟩
  | true =>
    exact ⟨_, rfl, sameUnits_writeBack u.drawn wb rn v, fun hwb => hback hwb u.drawn, by simp, by simp⟩

end

/-! ### LDR, LDRB, STR and STRB (42 R500 to R509) -/

/-- Bit W of the kinds: set in the T form, clear in the post-indexed one (42 R506). -/
def Indexing.wBit (x : Indexing) : Bool :=
  match x with
  | .pre w => w
  | .post => false
  | .user => true

theorem writesBack_isPre_wBit (x : Indexing) : writesBack x.isPre x.wBit = x.wb := by cases x <;> rfl

theorem exec_loadInstr (byte : Bool) (x : Indexing) (c : Cond) (u : Bool) (rn rd : Reg) (off : Offset) (s : State) :
    exec (loadInstr byte x c u rn rd off) s = armIf c s (loadSingle byte x.isPre u x.wBit rn rd off s) := by
  cases byte <;> cases x <;> rfl

theorem exec_storeInstr (byte : Bool) (x : Indexing) (c : Cond) (u : Bool) (rn rd : Reg) (off : Offset) (s : State) :
    exec (storeInstr byte x c u rn rd off) s = armIf c s (storeSingle byte x.isPre u x.wBit rn rd off s) := by
  cases byte <;> cases x <;> rfl

/-- The rotation of a misaligned word load (42 R502). -/
theorem loadWord_eq_rotatedWord (s : State) (a : Word) : s.loadWord a = rotatedWord s a := by
  have hbits : (a.extractLsb' 0 2).toNat = a.toNat % 4 := by rw [BitVec.extractLsb'_toNat, Nat.shiftRight_zero]
  rw [State.loadWord, rotatedWord, rorWord, hbits, Nat.mod_eq_of_lt (by omega)]

theorem loadFault_eq_none {byte wb : Bool} {rn rd : Reg} {off : Offset} (hoff : offsetR15 off = false)
    (hn : wb = true → rn ≠ 15 ∧ rn ≠ rd) (hd : byte = true → rd ≠ 15) : loadFault byte wb rn rd off = none := by
  rw [offsetR15_eq] at hoff
  rw [loadFault, if_neg (by simp [hoff]), if_neg (by simpa using fun h => (hn h).1), if_neg (by simpa using fun h => (hn h).2),
    if_neg (by simpa using hd)]

theorem storeFault_eq_none {byte wb : Bool} {rn rd : Reg} {off : Offset} (hoff : offsetR15 off = false)
    (hn : wb = true → rn ≠ 15) (hd : byte = true → rd ≠ 15) : storeFault byte wb rn rd off = none := by
  rw [offsetR15_eq] at hoff
  rw [storeFault, if_neg (by simp [hoff]), if_neg (by simpa using hn), if_neg (by simpa using hd)]

/-- 42 R501. -/
theorem storeValue_eq (s : State) (wb : Bool) (rn rd : Reg) : storeValue s wb rn rd =
    if wb && rn = rd then Config.any32 .stWbRnEqRd s.freeIdx else if rd = 15 then s.pc + 12 else reg s rd := by
  rw [storeValue, State.regStore, regOf_eq_ite]
  rfl

/-- Settles O33: the six forms are one load, which ends with its write-back and its destination. -/
theorem armSingleLoads : Obligations.ArmSingleLoads := by
  intro byte x c u rn rd off s hc hoff hn hd
  rw [exec_loadInstr]
  refine .armIf hc ?_
  rw [loadSingle, writesBack_isPre_wBit, loadFault_eq_none hoff hn hd, offset2_eq,
    addrOf_eq_accessAddr, ← loadWord_eq_rotatedWord]
  exact load_completes hn _

/-- Settles O34: the six forms are one store, whose write-back touches no memory. -/
theorem armSingleStores : Obligations.ArmSingleStores := by
  intro byte x c u rn rd off s hc hoff hn hd
  rw [exec_storeInstr]
  refine .armIf hc ?_
  rw [storeSingle, writesBack_isPre_wBit, storeFault_eq_none hoff hn hd, offset2_eq,
    addrOf_eq_accessAddr, ← storeValue_eq]
  exact store_completes (State.memWrite_only s _ _ _) _ hn

/-! ### Halfword and signed transfers (42 R520 to R524) -/

section
variable {p u w : Bool} {rn rd : Reg} {off : HalfOffset} {s : State} (hpw : p = true ∨ w = false)
  (hoff : halfOffsetR15 off = false) (hrd : rd ≠ 15) (hn : (!p || w) = true → rn ≠ 15)
include hpw hoff hrd hn

theorem halfFault_eq_none {load odd : Bool} (hodd : odd = false) (hne : load = true → (!p || w) = true → rn ≠ rd) :
    halfFault load p w rn rd off odd = none := by
  rw [halfOffsetR15_eq] at hoff
  have hload (h : (load && writesBack p w) = true) : rn ≠ rd := by
    rw [Bool.and_eq_true] at h
    exact hne h.1 h.2
  rw [halfFault, if_neg (by obtain rfl | rfl := hpw <;> simp), if_neg (by simp [hoff]),
    if_neg (by simpa [writesBack] using hn), if_neg hrd, if_neg (by simpa using hload), if_neg (by simp [hodd])]

theorem loadHalf_completes {k : HalfLoad} (hodd : k.misaligned (addrOf s p u rn (halfOffset2 s off)) = false)
    (hne : (!p || w) = true → rn ≠ rd) {v : Word} (hv : halfLoadValue k s (addrOf s p u rn (halfOffset2 s off)) = v) :
    Completes (loadHalf k p u w rn rd off s) fun t => reg t rd = v ∧ t.pc = s.pc + 4 ∧ t.cpsr = s.cpsr ∧
      ((!p || w) = true → reg t rn = indexedOf s u rn (halfOffset2 s off)) := by
  rw [halfOffset2_eq, addrOf_eq_accessAddr] at *
  obtain ⟨t, ht, hwrites, hback, hcpsr⟩ := load_completes (s := s) (wb := writesBack p w)
    (v := indexedAddr s u rn (halfOffsetValue s off)) (fun h => ⟨hn h, hne h⟩) v
  obtain ⟨hreg, hpc⟩ := (armWrites_of_ne hrd).mp hwrites
  rw [loadHalf, halfFault_eq_none hpw hoff hrd hn hodd fun _ => hne, hv]
  exact ⟨t, ht, hreg, hpc, hcpsr, hback⟩

theorem storeHalf_completes (hodd : (addrOf s p u rn (halfOffset2 s off)).getLsbD 0 = false) :
    Completes (storeHalf p u w rn rd off s) fun t =>
      SameUnits t (s.memWrite (addrOf s p u rn (halfOffset2 s off)) .b2
        (if (!p || w) && rn = rd then Config.any32 .stWbRnEqRd s.freeIdx else reg s rd)) ∧
      t.pc = s.pc + 4 ∧ t.cpsr = s.cpsr ∧
      ((!p || w) = true → reg t rn = indexedOf s u rn (halfOffset2 s off)) := by
  rw [halfOffset2_eq, addrOf_eq_accessAddr] at *
  have hvalue : storeValue s (writesBack p w) rn rd =
      if (!p || w) && rn = rd then Config.any32 .stWbRnEqRd s.freeIdx else reg s rd := by
    rw [storeValue_eq, if_neg hrd]
    rfl
  rw [storeHalf, halfFault_eq_none hpw hoff hrd hn hodd fun h => absurd h Bool.false_ne_true, ← hvalue]
  have hu := State.memWrite_only s (accessAddr s p u rn (halfOffsetValue s off)) .b2 (storeValue s (writesBack p w) rn rd)
  obtain ⟨t, ht, hunits, hback, hpc, hcpsr⟩ := store_completes (wb := writesBack p w) hu (writesBack p w && rn = rd) hn
  exact ⟨t, ht, hunits, hpc, hcpsr, hback⟩

end

theorem sext_low_byte (v : Word) : sext (v.extractLsb' 0 8) = (v.setWidth 8).signExtend 32 := by
  rw [BitVec.setWidth_eq_extractLsb' (by decide)]; rfl

theorem sext_low_half (v : Word) : sext (v.extractLsb' 0 16) = (v.setWidth 16).signExtend 32 := by
  rw [BitVec.setWidth_eq_extractLsb' (by decide)]; rfl

/-- Settles O35: three loads of one form, each with its own extension, and the store. -/
theorem armHalfwordTransfers : Obligations.ArmHalfwordTransfers := by
  intro c p u w rn rd off s hc hpw hoff hrd hn
  exact ⟨fun hodd hne => .armIf hc (loadHalf_completes (k := .uhalf) hpw hoff hrd hn hodd hne rfl),
    fun hne => .armIf hc (loadHalf_completes (k := .sbyte) hpw hoff hrd hn rfl hne (sext_low_byte _)),
    fun hodd hne => .armIf hc (loadHalf_completes (k := .shalf) hpw hoff hrd hn hodd hne (sext_low_half _)),
    fun hodd => .armIf hc (storeHalf_completes hpw hoff hrd hn hodd)⟩

/-! ### SWP and SWPB (42 R560, R561) -/

/-- A swap that meets no restriction: the old value is read before the store, and Rd is written after it. -/
theorem swap_completes (byte : Bool) {rn rd rm : Reg} (hrn : rn ≠ 15) (hrd : rd ≠ 15) (hrm : rm ≠ 15) (hnm : rn ≠ rm)
    (hnd : rn ≠ rd) (s : State) :
    Completes (swap byte rn rd rm s) fun t =>
      reg t rd = (if byte then s.memRead (reg s rn) .b1 else rotatedWord s (reg s rn)) ∧
      SameUnits t (s.memWrite (reg s rn) (if byte then .b1 else .b4) (reg s rm)) ∧ t.pc = s.pc + 4 ∧ t.cpsr = s.cpsr := by
  have hfault : swapFault rn rd rm = none := by simp [swapFault, hrn, hrd, hrm, hnm, hnd]
  have hu := State.memWrite_only s (reg s rn) (if byte then .b1 else .b4) (reg s rm)
  obtain ⟨t, ht, hunits, hreg, hpc, hcpsr⟩ := store_completes (wb := true) hu false fun _ => hrd
  rw [swap, hfault, regArm_eq_reg s hrn, regArm_eq_reg s hrm, ← loadWord_eq_rotatedWord]
  exact ⟨t, ht, hreg rfl, hunits, hpc, hcpsr⟩

/-- Settles O38: the swap of a word and of a byte. -/
theorem armSwaps : Obligations.ArmSwaps := by
  intro c rn rd rm s hc hrn hrd hrm hnm hnd
  exact ⟨.armIf hc (swap_completes false hrn hrd hrm hnm hnd s), .armIf hc (swap_completes true hrn hrd hrm hnm hnd s)⟩

end Sys2Proof.Claims
end

section
/-! Block transfers: where each register of a list stands in the block, and what LDM loads and STM stores there (42 R530 to R542). -/

namespace Sys2Proof.Claims

open Sys2Proof.Machine

/-! ### The registers of a list, in order (42 R530) -/

/-- An element that a filter keeps stands after those that it keeps before it. -/
theorem getElem?_filter_length_take {α : Type} (p : α → Bool) {l : List α} {k : Nat} {x : α} (hk : l[k]? = some x)
    (hx : p x = true) : (l.filter p)[((l.take k).filter p).length]? = some x := by
  obtain ⟨hlt, hget⟩ := List.getElem?_eq_some_iff.mp hk
  have hl : l.filter p = (l.take k).filter p ++ x :: (l.drop (k + 1)).filter p := by
    conv_lhs => rw [← List.take_append_drop k l, List.drop_eq_getElem_cons hlt, hget, List.filter_append]
    rw [List.filter_cons_of_pos hx]
  rw [hl]
  simp

section
variable {n : Nat} {list : BitVec n}

theorem rank_eq_length_filter_take {i : Nat} (hi : i ≤ n) :
    rank list i = (((List.finRange n).take i).filter fun k => list.getLsbD k.val).length := by
  have hrange : List.range i = ((List.finRange n).take i).map Fin.val := by
    rw [List.map_take, List.map_coe_finRange_eq_range, List.take_range, Nat.min_eq_left hi]
  rw [rank, hrange, List.filter_map, List.length_map]
  rfl

theorem getElem?_inOrder_rank {i : Fin n} (hi : list.getLsbD i.val = true) : (inOrder list)[rank list i.val]? = some i := by
  rw [rank_eq_length_filter_take i.isLt.le]
  exact getElem?_filter_length_take _ (by simp) hi

theorem nodup_inOrder : (inOrder list).Nodup := (List.nodup_finRange n).filter _

theorem mem_inOrder {i : Fin n} : i ∈ inOrder list ↔ list.getLsbD i.val = true := by simp [inOrder]

/-- The first register of the list is the one of rank 0. -/
theorem head?_inOrder_eq_some_iff {i : Fin n} (hi : list.getLsbD i.val = true) :
    (inOrder list).head? = some i ↔ rank list i.val = 0 := by
  have hrank := getElem?_inOrder_rank hi
  obtain ⟨hlt, -⟩ := List.getElem?_eq_some_iff.mp hrank
  rw [List.head?_eq_getElem?, ← hrank]
  exact ⟨fun h => ((List.getElem?_inj (by omega) nodup_inOrder).mp h).symm, fun h => by rw [h]⟩

end

/-- R15, where it is listed, is the last of the block. -/
theorem rank_fifteen {list : BitVec 16} (h : list.getLsbD 15 = true) : rank list 15 = count list - 1 := by
  have hall : List.finRange 16 = (List.finRange 16).take 15 ++ [15] := by decide
  have h15 : ([15] : List (Fin 16)).filter (fun k => list.getLsbD k.val) = [15] := List.filter_cons_of_pos h
  rw [count, inOrder, hall, List.filter_append, h15, List.length_append, List.length_singleton, Nat.add_sub_cancel]
  exact rank_eq_length_filter_take (by decide)

/-! ### LDM: the words of a block go to its registers (42 R531) -/

theorem word_add_four_mul_succ (a : Word) (k : Nat) : a + BitVec.ofNat 32 (4 * (k + 1)) = a + 4 + BitVec.ofNat 32 (4 * k) := by
  rw [Nat.mul_succ, Nat.add_comm, BitVec.ofNat_add, BitVec.add_assoc]
  rfl

theorem sameUnits_setRegOf (s : State) (m : Mode) (n : Reg) (v : Word) :
    SameUnits (s.setRegOf m n v) s ∧ (s.setRegOf m n v).params = s.params := by
  unfold State.setRegOf
  split
  · exact ⟨⟨rfl, rfl, rfl, rfl⟩, rfl⟩
  · exact ⟨⟨rfl, rfl, rfl, rfl⟩, rfl⟩

theorem memRead_setRegOf (s : State) (m : Mode) (n : Reg) (v a : Word) (w : Width) :
    (s.setRegOf m n v).memRead a w = s.memRead a w := by
  obtain ⟨⟨hmem, hic, hppu, hcart⟩, hparams⟩ := sameUnits_setRegOf s m n v
  exact State.memRead_congr hmem hic hppu hcart hparams a w

/-- A write of one number leaves every other, whatever the two banks; a write of R15 leaves them all. -/
theorem regOf_setRegOf_of_ne (s : State) (m m' : Mode) {n n' : Reg} (hn' : n' ≠ 15) (hne : n' ≠ n) (v off : Word) :
    (s.setRegOf m n v).regOf m' off n' = s.regOf m' off n' := by
  by_cases hn : n = 15
  · rw [hn, State.setRegOf, bank_pc]
  · rw [State.regOf_setRegOf s m m' n n' v off hn hn', if_neg fun h => hne (bank_injective h)]

theorem regOf_loadRegs_of_not_mem {rs : List Reg} (s : State) (m m' : Mode) (a off : Word) {n : Reg} (hn : n ≠ 15)
    (hrs : n ∉ rs) : (s.loadRegs m a rs).regOf m' off n = s.regOf m' off n := by
  induction rs generalizing s a with
  | nil => rfl
  | cons r rest ih =>
    rw [List.mem_cons, not_or] at hrs
    rw [State.loadRegs, ih _ _ hrs.2, regOf_setRegOf_of_ne s m m' hn hrs.1]

/-- The register at position `k` of the list gets word `k` of the block. -/
theorem regOf_loadRegs {rs : List Reg} (hnodup : rs.Nodup) (s : State) (m : Mode) (a off : Word) {k : Nat} {r : Reg}
    (hr : r ≠ 15) (hk : rs[k]? = some r) : (s.loadRegs m a rs).regOf m off r = wordAt s a k := by
  induction rs generalizing s a k with
  | nil => simp at hk
  | cons r' rest ih =>
    obtain ⟨hnot, hrest⟩ := List.nodup_cons.mp hnodup
    rw [State.loadRegs]
    cases k with
    | zero =>
      obtain rfl : r' = r := by simpa using hk
      rw [regOf_loadRegs_of_not_mem _ m m _ off hr hnot, State.regOf_setRegOf s m m r' r' _ off hr hr, if_pos rfl, wordAt,
        Nat.mul_zero, BitVec.add_zero]
    | succ k =>
      rw [ih hrest _ _ (by simpa using hk), wordAt, memRead_setRegOf, wordAt, word_add_four_mul_succ]

@[simp] theorem setRegOf_pc (s : State) (m : Mode) (n : Reg) (v : Word) : (s.setRegOf m n v).pc = s.pc := by
  unfold State.setRegOf; split <;> rfl

@[simp] theorem loadRegs_pc (rs : List Reg) (s : State) (m : Mode) (a : Word) : (s.loadRegs m a rs).pc = s.pc := by
  induction rs generalizing s a with
  | nil => rfl
  | cons r rest ih => rw [State.loadRegs, ih, setRegOf_pc]

theorem ldmLoaded_pc (p u sb w : Bool) (rn : Reg) (list : BitVec 16) (s : State) :
    (ldmLoaded p u sb w rn list s).pc = s.pc := (loadRegs_pc _ _ _ _).trans (writeBack_pc s w rn _)

section
variable {rn : Reg} (hrn : rn ≠ 15) {list : BitVec 16} (s : State) (p u sb w : Bool)
include hrn

/-- The words are those of memory before the instruction: write-back changes no memory. -/
theorem regOf_ldmLoaded {m : Mode} (hm : blockMode (sb && !inList list 15) s = m) {i : Reg} (hi15 : i ≠ 15)
    (hi : list.getLsbD i.val = true) : (ldmLoaded p u sb w rn list s).regOf m 0 i =
      wordAt s (firstAddr p u (reg s rn) (count list)) (rank list i.val) := by
  subst hm
  rw [ldmLoaded, firstAddr_eq, ← regArm_eq_reg s hrn]
  refine (regOf_loadRegs nodup_inOrder _ _ _ _ hi15 (getElem?_inOrder_rank hi)).trans ?_
  cases w with
  | false => rfl
  | true => exact memRead_setRegOf _ _ _ _ _ _

theorem regOf_ldmLoaded_base (hw : w = true) (hlist : list.getLsbD rn.val = false) :
    (ldmLoaded p u sb w rn list s).regOf s.cpsr.mode 0 rn = blockEnd u (reg s rn) (count list) := by
  have hnot : rn ∉ regList list := fun h => Bool.false_ne_true (hlist.symm.trans (mem_inOrder.mp h))
  rw [ldmLoaded, regOf_loadRegs_of_not_mem _ _ _ _ _ hrn hnot, blockWriteBack, if_pos hw]
  rw [State.setReg, State.regOf_setRegOf s _ _ rn rn _ 0 hrn hrn, if_pos rfl, regArm_eq_reg s hrn]
  rfl

theorem ldmTarget_eq (h15 : list.getLsbD 15 = true) :
    ldmTarget p u rn list s = wordAt s (firstAddr p u (reg s rn) (count list)) (rank list 15) := by
  rw [rank_fifteen h15, firstAddr_eq, ← regArm_eq_reg s hrn]
  rfl

end

theorem ldmFault_eq_none {sb w : Bool} {rn : Reg} {list : BitVec 16} {m : Mode} (hlist : list ≠ 0) (hrn : rn ≠ 15)
    (hw : w = true → list.getLsbD rn.val = false)
    (hsb : sb = true → list.getLsbD 15 = false → w = false ∧ noSpsrMode m = false) : ldmFault sb w rn list m = none := by
  have hbase : (w && list.getLsbD rn.val) = false := by simpa using hw
  rw [ldmFault_eq_head?, ldmTags, decide_eq_false hlist, decide_eq_false hrn, hbase]
  cases huser : sb && !list.getLsbD 15 with
  | false => rfl
  | true =>
    rw [Bool.and_eq_true, Bool.not_eq_true'] at huser
    obtain ⟨hw', hm⟩ := hsb huser.1 huser.2
    rw [hw', hm]
    rfl

/-- LDM where it restores no status: the PC goes to the word loaded for R15, or on. -/
theorem ldm_eq_next {p u sb w : Bool} {rn : Reg} {list : BitVec 16} {s : State}
    (hfault : ldmFault sb w rn list s.cpsr.mode = none) (h : (sb && inList list 15) = false) :
    ldm p u sb w rn list s = .next ((ldmLoaded p u sb w rn list s).setPc
      (if list.getLsbD 15 then align4 (ldmTarget p u rn list s) else s.pc + 4)) := by
  have hin : inList list 15 = list.getLsbD 15 := rfl
  rw [hin] at h
  rw [ldm, hfault, hin, ← ldmLoaded_pc p u sb w rn list s]
  cases h15 : list.getLsbD 15 with
  | false => rfl
  | true =>
    rw [h15, Bool.and_true] at h
    rw [h]
    rfl

/-- The restore form of LDM. -/
theorem ldm_eq_psrRestore {p u w : Bool} {rn : Reg} {list : BitVec 16} {s : State}
    (hfault : ldmFault true w rn list s.cpsr.mode = none) (h : inList list 15 = true) :
    ldm p u true w rn list s = (ldmLoaded p u true w rn list s).psrRestore (ldmTarget p u rn list s) := by
  rw [ldm, hfault, h]
  rfl

/-- A PSR restore to a legal mode writes the status and the PC alone (10 R116). -/
theorem psrRestore_completes {s u : State} (hcpsr : u.cpsr = s.cpsr) (hspsr : u.spsr = s.spsr) {e : Exc}
    (he : s.cpsr.mode.exc? = some e) (hlegal : legalSpsr s = true) (v : Word) :
    Completes (u.psrRestore v) fun t => t.regs = u.regs ∧ Restored s t e v := by
  rw [legalSpsr, he] at hlegal
  obtain ⟨m, hm⟩ := Option.isSome_iff_exists.mp hlegal
  obtain ⟨p, hp, hpsr⟩ := exists_toCpsr? hm
  have hnext := psrRestore_of_legal (s := u) (by rw [hcpsr]; exact he) (by rw [State.spsrOf_congr hspsr]; exact hp) v
  refine ⟨_, hnext, rfl, hpsr, ?_⟩
  rw [← hpsr]
  show (if p.t then align2 v else align4 v) = v &&& if p.t then _ else _
  cases p.t <;> rfl

section
variable {p u w : Bool} {rn : Reg} {list : BitVec 16} {s : State} (hlist : list ≠ 0) (hrn : rn ≠ 15)
  (hw : w = true → list.getLsbD rn.val = false)
include hlist hrn hw

theorem ldm_plain_completes : Completes (ldm p u false w rn list s) fun t =>
    (∀ i : Reg, i ≠ 15 → list.getLsbD i.val = true →
      reg t i = wordAt s (firstAddr p u (reg s rn) (count list)) (rank list i.val)) ∧
    (w = true → reg t rn = blockEnd u (reg s rn) (count list)) ∧
    t.pc = (if list.getLsbD 15 then wordAt s (firstAddr p u (reg s rn) (count list)) (rank list 15) &&& 0xFFFFFFFC
      else s.pc + 4) ∧ t.cpsr = s.cpsr := by
  have hfault : ldmFault false w rn list s.cpsr.mode = none :=
    ldmFault_eq_none hlist hrn hw fun h => absurd h Bool.false_ne_true
  have hcpsr := ldmLoaded_cpsr p u false w rn list s
  have hreg (x : Word) {i : Reg} (hi15 : i ≠ 15) :
      reg ((ldmLoaded p u false w rn list s).setPc x) i = (ldmLoaded p u false w rn list s).regOf s.cpsr.mode 0 i := by
    rw [reg_setPc _ _ hi15, reg, hcpsr]
  refine ⟨_, ldm_eq_next hfault rfl, fun i hi15 hi => ?_, fun hwb => ?_, ?_, hcpsr⟩
  · rw [hreg _ hi15]
    exact regOf_ldmLoaded hrn s p u false w rfl hi15 hi
  · rw [hreg _ hrn]
    exact regOf_ldmLoaded_base hrn s p u false w hwb (hw hwb)
  · rw [State.setPc_pc]
    split
    case isTrue h15 => rw [ldmTarget_eq hrn s p u h15]; rfl
    case isFalse => rfl

/-- 42 R540. -/
theorem ldm_user_completes (hnw : w = false) (h15 : list.getLsbD 15 = false) (hm : noSpsrMode s.cpsr.mode = false) :
    Completes (ldm p u true w rn list s) fun t =>
      (∀ i : Reg, list.getLsbD i.val = true →
        t.regOf .usr 0 i = wordAt s (firstAddr p u (reg s rn) (count list)) (rank list i.val)) ∧
      t.pc = s.pc + 4 ∧ t.cpsr = s.cpsr := by
  have hin : inList list 15 = false := h15
  have hfault : ldmFault true w rn list s.cpsr.mode = none := ldmFault_eq_none hlist hrn hw fun _ _ => ⟨hnw, hm⟩
  refine ⟨_, ldm_eq_next hfault hin, fun i hi => ?_, ?_, ldmLoaded_cpsr p u true w rn list s⟩
  · have hi15 : i ≠ 15 := by rintro rfl; exact Bool.false_ne_true (h15.symm.trans hi)
    rw [regOf_congr (State.setPc_regs _ _) _ _ hi15]
    exact regOf_ldmLoaded hrn s p u true w (by rw [hin]; rfl) hi15 hi
  · rw [State.setPc_pc, h15]; rfl

/-- 42 R542. -/
theorem ldm_restore_completes {e : Exc} (he : s.cpsr.mode.exc? = some e) (hlegal : legalSpsr s = true)
    (h15 : list.getLsbD 15 = true) : Completes (ldm p u true w rn list s) fun t =>
      (∀ i : Reg, i ≠ 15 → list.getLsbD i.val = true →
        t.regOf s.cpsr.mode 0 i = wordAt s (firstAddr p u (reg s rn) (count list)) (rank list i.val)) ∧
      (w = true → t.regOf s.cpsr.mode 0 rn = blockEnd u (reg s rn) (count list)) ∧
      Restored s t e (wordAt s (firstAddr p u (reg s rn) (count list)) (rank list 15)) := by
  have hin : inList list 15 = true := h15
  have hfault : ldmFault true w rn list s.cpsr.mode = none :=
    ldmFault_eq_none hlist hrn hw fun _ h => absurd (h.symm.trans h15) Bool.false_ne_true
  obtain ⟨t, ht, hregs, hrestored⟩ := psrRestore_completes (ldmLoaded_cpsr p u true w rn list s)
    (ldmLoaded_spsr p u true w rn list s) he hlegal (ldmTarget p u rn list s)
  rw [ldmTarget_eq hrn s p u h15] at hrestored
  refine ⟨t, (ldm_eq_psrRestore hfault hin).trans ht, fun i hi15 hi => ?_, fun hwb => ?_, hrestored⟩
  · rw [regOf_congr hregs _ _ hi15]
    exact regOf_ldmLoaded hrn s p u true w (by rw [hin]; rfl) hi15 hi
  · rw [regOf_congr hregs _ _ hrn]
    exact regOf_ldmLoaded_base hrn s p u true w hwb (hw hwb)

end

/-- Settles O36: the plain form, the user-bank form and the restore form. -/
theorem armBlockLoads : Obligations.ArmBlockLoads := by
  intro c p u w rn list s hc hlist hrn hw
  exact ⟨.armIf hc (ldm_plain_completes hlist hrn hw),
    fun hnw h15 hm => .armIf hc (ldm_user_completes hlist hrn hw hnw h15 hm),
    fun e he hlegal h15 => .armIf hc (ldm_restore_completes hlist hrn hw he hlegal h15)⟩

/-! ### STM: the registers of the list go to the words of a block (42 R532, R541) -/

theorem storedBlock_eq_storeWords (s : State) (a : Word) (ws : List Word) : storedBlock s a ws = s.storeWords a ws := by
  have hfrom (k : Nat) : (ws.zipIdx k).foldl (fun u e => u.memWrite (a + BitVec.ofNat 32 (4 * e.2)) .b4 e.1) s =
      s.storeWords (a + BitVec.ofNat 32 (4 * k)) ws := by
    induction ws generalizing s k with
    | nil => rfl
    | cons v rest ih => rw [List.zipIdx_cons, List.foldl_cons, ih, State.storeWords, word_add_four_mul_succ, add_right_comm]
  rw [storedBlock, hfrom 0, Nat.mul_zero, BitVec.add_zero]

/-- A listed base is drawn for where it is written back and not of rank 0. -/
theorem stmDraws_iff {w : Bool} {rn : Reg} {list : BitVec 16} (h : list.getLsbD rn.val = true) :
    stmDraws w rn list = true ↔ w = true ∧ rank list rn.val ≠ 0 := by
  have hlowest : isLowest list rn = true ↔ rank list rn.val = 0 := by
    rw [isLowest, decide_eq_true_iff]
    exact head?_inOrder_eq_some_iff h
  have hin : inList list rn = true := h
  rw [stmDraws, hin, Bool.and_true, Bool.and_eq_true, Bool.not_eq_true', ← Bool.not_eq_true, hlowest]

theorem stmValue_eq (sb w : Bool) (rn : Reg) {list : BitVec 16} (s : State) {i : Reg} (hi : list.getLsbD i.val = true) :
    stmValue sb w rn list s i =
      if i = rn ∧ w = true ∧ rank list i.val ≠ 0 then Config.any32 .stmWbBaseNotLowest s.freeIdx
      else if i = 15 then s.pc + 12 else s.regOf (if sb then .usr else s.cpsr.mode) 0 i := by
  have hdraws : (decide (i = rn) && stmDraws w rn list) = true ↔ i = rn ∧ w = true ∧ rank list i.val ≠ 0 := by
    rw [Bool.and_eq_true, decide_eq_true_iff]
    refine and_congr_right fun h => ?_
    subst h
    exact stmDraws_iff hi
  rw [stmValue, regOf_eq_ite s _ 12]
  exact if_congr hdraws rfl rfl

theorem stmFault_eq_none {sb w : Bool} {rn : Reg} {list : BitVec 16} {m : Mode} (hlist : list ≠ 0) (hrn : rn ≠ 15)
    (hsb : sb = true → w = false ∧ noSpsrMode m = false) : stmFault sb w rn list m = none := by
  rw [stmFault_eq_head?, stmTags, decide_eq_false hlist, decide_eq_false hrn]
  cases sb with
  | false => rfl
  | true =>
    obtain ⟨hw, hm⟩ := hsb rfl
    rw [hw, hm]
    rfl

/-- Settles O37: the stores of the values of the list, after which the base is written back. -/
theorem armBlockStores : Obligations.ArmBlockStores := by
  intro c p u sb w rn list s hc hlist hrn hsb value
  refine .armIf hc ?_
  have hvalues : (inOrder list).map value = (regList list).map (stmValue sb w rn list s) :=
    List.map_congr_left fun i hi => (stmValue_eq sb w rn s (mem_inOrder.mp hi)).symm
  rw [hvalues, storedBlock_eq_storeWords, firstAddr_eq, ← regArm_eq_reg s hrn, stm, stmFault_eq_none hlist hrn hsb]
  exact store_completes (State.storeWords_only _ s _) (stmDraws w rn list) fun _ => hrn

end Sys2Proof.Claims
end

section
/-! ARM branches, the SWI exception, decode anomalies, and what a failed condition leaves (43; 30 R305; 60 R925, R926). -/

namespace Sys2Proof.Claims

open Sys2Proof.Machine

/-! ### Branches (43 R600 to R602) -/

/-- A word of `n` bits over `k` zero bits, sign-extended, is the signed value times `2 ^ k` (30 R313). -/
theorem sext_append_zero {n k : Nat} (off : BitVec n) : sext (off ++ 0#k) = BitVec.ofInt 32 (2 ^ k * off.toInt) := by
  rw [sext, BitVec.signExtend, BitVec.toInt_append_zero, Int.mul_comm]

theorem branchTarget_eq (s : State) (off24 : BitVec 24) :
    branchTarget s off24 = s.pc + 8 + BitVec.ofInt 32 (4 * off24.toInt) := by
  rw [branchTarget, sext_append_zero]
  rfl

section
variable {c : Cond} {s : State} (hc : condPass c s.cpsr = true)
include hc

theorem armIf_of_passed (o : Host.Outcome State Fault Refusal) : armIf c s o = o := if_pos hc

theorem exec_b (off24 : BitVec 24) : exec (.b c off24) s = .next (s.setPc (branchTarget s off24)) := armIf_of_passed hc _

theorem exec_bl (off24 : BitVec 24) :
    exec (.bl c off24) s = .next ((s.setReg 14 (s.pc + 4)).setPc (branchTarget s off24)) := armIf_of_passed hc _

theorem exec_bx (rm : Reg) : exec (.bx c rm) s = branchExchange s (if rm = 15 then s.pc + 8 else reg s rm) :=
  (armIf_of_passed hc _).trans (congrArg _ (regOf_eq_ite s s.cpsr.mode 8 rm))

end

theorem branchExchange_thumb (s : State) {v : Word} (h0 : v.getLsbD 0 = true) :
    branchExchange s v = .next ((s.setCpsr { s.cpsr with t := true }).setPc (align2 v)) := if_pos h0

theorem branchExchange_misaligned (s : State) {v : Word} (h0 : v.getLsbD 0 = false) (h1 : v.getLsbD 1 = true) :
    branchExchange s v = .fault .bxArmMisaligned := by
  rw [branchExchange, h0, h1]
  rfl

theorem branchExchange_arm (s : State) {v : Word} (h0 : v.getLsbD 0 = false) (h1 : v.getLsbD 1 = false) :
    branchExchange s v = .next ((s.setCpsr { s.cpsr with t := false }).setPc v) := by
  rw [branchExchange, h0, h1]
  rfl

/-- Settles O39: the target of B and BL as an integer offset, the link register, and the three targets of BX. -/
theorem armBranches : Obligations.ArmBranches := by
  intro c off24 rm s hc
  rw [exec_b hc, exec_bl hc, exec_bx hc, branchTarget_eq]
  refine ⟨rfl, ⟨_, rfl, ?_, rfl, setReg_cpsr s 14 (s.pc + 4)⟩, branchExchange_thumb s, branchExchange_misaligned s,
    branchExchange_arm s⟩
  rw [reg_setPc _ _ (by decide), reg_setReg_self s (by decide)]

/-! ### A condition that fails (30 R305, 43 R621) -/

/-- Every instruction with a condition does nothing but test it and run its body; a Thumb instruction has none. -/
theorem exec_eq_armIf {i : Instr} {c : Cond} (h : condOf i = some c) (s : State) : ∃ body, exec i s = armIf c s body := by
  cases i <;> cases h
  all_goals exact ⟨_, rfl⟩

/-- The condition that an instruction's cost depends on is its own (70 R1120). -/
theorem costKind_of_condOf {i : Instr} {c : Cond} (h : condOf i = some c) :
    costKind i = .plain ∨ costKind i = .anomaly c ∨ ∃ n, costKind i = .syscall c n := by
  cases i with
  | undMulSwap | undHalfword | undPsr | undMsrImm | und011 | undCopTransfer | undCopOp => cases h; exact .inr (.inl rfl)
  | swi => cases h; exact .inr (.inr ⟨_, rfl⟩)
  | tSwi | tUndB1 | tUndB2 | tUndB6 | tUndB8 | tUndBE | tUndDE | tUndE8 => cases h
  | _ => exact .inl rfl

theorem instrCost_of_failed {i : Instr} {s : State} {c : Cond} (h : condOf i = some c) (hc : condPass c s.cpsr = false) :
    instrCost i s = cycOf i s := by
  unfold instrCost
  obtain hk | hk | ⟨n, hk⟩ := costKind_of_condOf h <;> simp [hk, hc]

/-- Settles O23: the failing branch of `armIf`, and the cost of each kind without its condition. -/
theorem failedConditionOnlyAdvancesPc : Obligations.FailedConditionOnlyAdvancesPc := by
  intro i s c hi hc
  obtain ⟨body, hbody⟩ := exec_eq_armIf hi s
  refine ⟨?_, instrCost_of_failed hi hc⟩
  rw [hbody, armIf, hc]
  rfl

/-! ### Decode anomalies (43 R620, 46 R755) -/

/-- The seven ARM rows run alike, under the condition of their word. -/
theorem armAnomaly_rows {i : Instr} {w : Word}
    (hi : i ∈ [.undMulSwap w, .undHalfword w, .undPsr w, .undMsrImm w, .und011 w, .undCopTransfer w, .undCopOp w]) :
    (∀ s, exec i s = armAnomaly w s) ∧ condOf i = some (armCond w) ∧ costKind i = .anomaly (armCond w) := by
  simp only [List.mem_cons, List.not_mem_nil, or_false] at hi
  obtain rfl | rfl | rfl | rfl | rfl | rfl | rfl := hi <;> exact ⟨fun _ => rfl, rfl, rfl⟩

/-- The seven Thumb rows run alike, under no condition. -/
theorem thumbAnomaly_rows {i : Instr} {h : Half}
    (hi : i ∈ [.tUndB1 h, .tUndB2 h, .tUndB6 h, .tUndB8 h, .tUndBE h, .tUndDE h, .tUndE8 h]) :
    (∀ s, exec i s = thumbAnomaly h s) ∧ costKind i = .anomaly .al := by
  simp only [List.mem_cons, List.not_mem_nil, or_false] at hi
  obtain rfl | rfl | rfl | rfl | rfl | rfl | rfl := hi <;> exact ⟨fun _ => rfl, rfl⟩

theorem instrCost_anomaly {i : Instr} {s : State} {c : Cond} (hk : costKind i = .anomaly c) (hc : condPass c s.cpsr = true) :
    instrCost i s = 1 := by
  unfold instrCost
  rw [hk]
  exact if_pos hc

/-- Settles O46: the rows of either set share one meaning and one kind of cost. -/
theorem decodeAnomaliesAreNoOps : Obligations.DecodeAnomaliesAreNoOps := by
  refine ⟨fun i w s hi hp => ?_, fun i h s hi => ?_⟩
  · obtain ⟨hexec, hcond, hkind⟩ := armAnomaly_rows hi
    have hc : condPass (armCond w) s.cpsr = true := by rwa [passes, hcond] at hp
    exact ⟨(hexec s).trans (armIf_of_passed hc _), instrCost_anomaly hkind hc⟩
  · obtain ⟨hexec, hkind⟩ := thumbAnomaly_rows hi
    exact ⟨hexec s, instrCost_anomaly hkind rfl⟩

/-! ### The SWI exception (43 R610 to R612; 60 R925, R926) -/

/-- An SWI of either instruction set whose condition passes runs its call. -/
theorem exec_of_isCall {i : Instr} {n : Byte} {len : Word} {s : State} (h : IsCall i n len s) :
    exec i s = softwareInterrupt n len s := by
  obtain ⟨c, low, rfl, hc, rfl⟩ | ⟨rfl, rfl⟩ := h
  · have hn : (n ++ low).extractLsb' 16 8 = n := BitVec.extractLsb'_append_eq_left
    calc exec (.swi c (n ++ low)) s = softwareInterrupt ((n ++ low).extractLsb' 16 8) 4 s := armIf_of_passed hc _
      _ = softwareInterrupt n 4 s := by rw [hn]
  · rfl

/-- An SWI that belongs to the current instruction set has that set's length. -/
theorem IsCall.len_eq {i : Instr} {n : Byte} {len : Word} {s : State} (h : IsCall i n len s)
    (hset : i = .tSwi n ↔ s.cpsr.t = true) : (if s.cpsr.t then 2 else 4) = len := by
  obtain ⟨c, low, rfl, hc, rfl⟩ | ⟨rfl, rfl⟩ := h
  · exact if_neg fun ht => nomatch hset.mpr ht
  · exact if_pos (hset.mp rfl)

/-- The address after an instruction of the current set is aligned as its own is. -/
theorem pcAligned_advancePc {s : State} (h : s.pcAligned = true) :
    (s.advancePc (if s.cpsr.t then 2 else 4)).pcAligned = true := by
  have hlen : Aligned s.cpsr.t (if s.cpsr.t then 2 else 4) := by
    cases s.cpsr.t with
    | false => exact aligned_four
    | true => exact aligned_two
  exact (pcAligned_iff _).mpr (((pcAligned_iff s).mp h).add hlen)

/-- MOVS PC, R14 restores to the address in R14. -/
theorem exec_movs_pc_lr (s : State) : exec (.movRsi .al true 0 15 0 .lsl 14) s = s.psrRestore (s.regArm 14) :=
  exec_dpInstr_restores (op := .mov) (f := .rsi 0 .lsl 14) rfl rfl rfl

/-- MOVS PC, R14 right after the entry restores the saved status and goes to the return address, which that status aligns. -/
theorem exec_movs_pc_lr_takeException {s : State} {ret : Word} (hret : (s.setPc ret).pcAligned = true) :
    Completes (exec (.movRsi .al true 0 15 0 .lsl 14) (s.takeException .svc ret swiVector)) fun u =>
      u.pc = ret ∧ u.cpsr = s.cpsr := by
  have hlr : (s.takeException .svc ret swiVector).regArm 14 = ret := takeException_greg s .svc ret _ (.lr .svc)
  have hsaved : (s.takeException .svc ret swiVector).spsrOf .svc = s.cpsr.toPsr := takeException_spsrOf s .svc ret _ .svc
  rw [exec_movs_pc_lr, hlr]
  exact ⟨_, psrRestore_of_saved rfl hsaved _, align_pc_of_pcAligned hret, rfl⟩

/-- Settles O14: with no BiosHLE the call is the exception entry, whose R14 and SPSR MOVS PC, R14 puts back. -/
theorem swiExceptionEntryAndReturn : Obligations.SwiExceptionEntryAndReturn := by
  intro i n len s hhle hcall hset
  have hlen := hcall.len_eq hset
  have hentry : exec i s = .next (s.takeException .svc (s.pc + len) swiVector) := by
    rw [exec_of_isCall hcall, softwareInterrupt, hhle, ← hlen]
    rfl
  refine ⟨_, hentry, takeException_greg s .svc _ _ (.lr .svc), takeException_spsrOf s .svc _ _ .svc, rfl, rfl,
    fun g hg => ?_, fun e he => ?_, ⟨rfl, rfl, rfl, rfl⟩, ⟨rfl, rfl, rfl, rfl, rfl, rfl, rfl⟩, ⟨rfl, rfl, rfl, rfl⟩, rfl, rfl,
    fun haligned => ?_⟩
  · exact (takeException_greg s .svc _ swiVector g).trans (if_neg hg)
  · exact (takeException_spsrOf s .svc (s.pc + len) swiVector e).trans (if_neg he)
  · exact exec_movs_pc_lr_takeException (hlen ▸ pcAligned_advancePc haligned)

end Sys2Proof.Claims
end

section
/-! Thumb data processing, its high-register forms, addresses and branches: the ends that the operations share, and what each
operation gives them (44; 46 R750 to R754). -/

namespace Sys2Proof.Claims

open Sys2Proof.Machine

/-! ### The ends of an operation on low registers (44) -/

theorem lowResult_completes (rd : LoReg) (r : AluOut) (s : State) :
    Completes (lowResult rd r s) fun t => t.lo rd = r.value ∧ t.pc = s.pc + 2 ∧ ResultFlags t r.value r.c r.v :=
  ⟨_, rfl, State.greg_setGreg_self _ _ _, rfl, resultFlags_withResult rfl⟩

theorem flagResult_completes (r : AluOut) (s : State) :
    Completes (flagResult r s) fun t => t.regs = s.regs ∧ t.pc = s.pc + 2 ∧ ResultFlags t r.value r.c r.v :=
  ⟨_, rfl, rfl, rfl, resultFlags_withResult rfl⟩

/-! ### Shifts (44 R650 to R652, R663 to R665, R668) -/

theorem thumbShift_completes (rd : LoReg) (r : Word × Bool) (s : State) :
    Completes (thumbShift rd r s) (ThumbLogic s r.1 r.2 rd) := lowResult_completes rd _ s

theorem shiftAmount_eq_mod (s : State) (rs : LoReg) : shiftAmount s rs = (s.lo rs).toNat % 256 :=
  BitVec.extractLsb'_toNat 0 8 (s.lo rs)

/-- Settles O47: the seven shifts share one end; an immediate one substitutes its amount, a register one takes a low byte. -/
theorem thumbShifts : Obligations.ThumbShifts := by
  intro off5 rs rd s
  simp only [← shiftAmount_eq_mod]
  have shift (r : Word × Bool) := thumbShift_completes rd r s
  exact ⟨shift _, shift _, shift _, shift _, shift _, shift _, shift _⟩

/-! ### Additions, subtractions and compares (44 R653 to R672) -/

/-- An instruction that is an arithmetic operation on low registers ends with its exact result and flags (00 R13). -/
theorem exec_thumbArith {i : Instr} {op : DpOp} {rd : LoReg} {a b : Word} {s : State}
    (hi : exec i s = thumbAlu op rd a b s.cpsr.c s) (h : isLogical op = false) :
    Completes (exec i s) (ThumbArith s op a b rd) := by
  rw [hi, thumbAlu, isTest_eq_not_writesRd, alu_arithmetic h]
  unfold ThumbArith
  cases writesRd op with
  | true => exact lowResult_completes rd _ s
  | false => exact flagResult_completes _ s

/-- NEG is a subtraction with its operands exchanged (44 R670). -/
theorem exec_tNeg (rs rd : LoReg) (s : State) : exec (.tNeg rs rd) s = thumbAlu .sub rd 0 (s.lo rs) s.cpsr.c s := rfl

/-- Settles O48: each is one of the arithmetic operations on its two operands. -/
theorem thumbArithmetic : Obligations.ThumbArithmetic := by
  intro rn rs rd off3 off8 s
  refine ⟨?_, ?_, ?_, ?_, ?_, ?_, ?_, ?_, ?_, exec_thumbArith (exec_tNeg rs rd s) rfl, ?_, ?_⟩
  all_goals exact exec_thumbArith rfl rfl

/-! ### Logical operations and MUL (44 R657, R661, R662, R669, R673 to R676) -/

theorem thumbAlu_logical_completes {op : DpOp} (h : isLogical op = true) (hw : writesRd op = true) (rd : LoReg) (a b : Word)
    (shc : Bool) (s : State) : Completes (thumbAlu op rd a b shc s) (ThumbLogic s (logicalValue op a b) shc rd) := by
  rw [thumbAlu, isTest_eq_not_writesRd, hw, alu_logical_eq h]
  exact lowResult_completes rd _ s

theorem exec_tTst (rs rd : LoReg) (s : State) :
    exec (.tTst rs rd) s = flagResult (logicOut (s.lo rd &&& s.lo rs) s.cpsr.c s.cpsr) s := rfl

theorem execTMul_completes {rs rd : LoReg} (h : rs ≠ rd) (s : State) :
    Completes (execTMul rs rd s) (ThumbLogic s (s.lo rs * s.lo rd) (Config.any1 .mulCarry s.freeIdx) rd) := by
  rw [execTMul, if_neg h.symm]
  exact ⟨_, rfl, State.greg_setGreg_self _ _ _, rfl,
    resultFlags_withResult (r := ⟨s.lo rs * s.lo rd, Config.any1 .mulCarry s.freeIdx, s.cpsr.v⟩) rfl⟩

/-- Settles O49: the logical operations with C as their carry-in, TST by its flags, and MUL with its product as a number. -/
theorem thumbLogicalAndMultiply : Obligations.ThumbLogicalAndMultiply := by
  intro rs rd off8 s
  rw [exec_tTst, ← word_mul_eq_ofNat]
  have logic {op : DpOp} (h : isLogical op = true) (hw : writesRd op = true) (b : Word) :=
    thumbAlu_logical_completes h hw rd (s.lo rd) b s.cpsr.c s
  exact ⟨logic (op := .mov) rfl rfl _, logic (op := .and) rfl rfl _, logic (op := .eor) rfl rfl _, flagResult_completes _ s,
    logic (op := .orr) rfl rfl _, logic (op := .bic) rfl rfl _, logic (op := .mvn) rfl rfl _,
    fun h => execTMul_completes h s, fun h => if_pos h.symm⟩

/-! ### High registers (44 R680 to R684) -/

/-- 10 R106. -/
theorem regThumb_eq_ite (s : State) (n : Reg) : s.regThumb n = if n = 15 then s.pc + 4 else reg s n :=
  regOf_eq_ite s s.cpsr.mode 4 n

@[simp] theorem writeThumb_cpsr (s : State) (rd : Reg) (v : Word) : (s.writeThumb rd v).cpsr = s.cpsr := by
  unfold State.writeThumb
  split <;> rfl

/-- 10 R107. -/
theorem thumbWrites_writeThumb (s : State) (rd : Reg) (v : Word) : ThumbWrites s (s.writeThumb rd v) rd v := by
  unfold ThumbWrites
  split
  case isTrue h => rw [h, State.writeThumb, bank_pc]; rfl
  case isFalse h =>
    obtain ⟨g, hg⟩ := bank_gen s.cpsr.mode h
    have hwrite : s.writeThumb rd v = (s.setReg rd v).advancePc 2 := by
      rw [State.writeThumb, hg, State.setReg, State.setRegOf_gen s v hg]
    rw [hwrite, reg_advancePc _ 2 h, reg_setReg_self s h, State.advancePc_pc, setReg_pc]
    exact ⟨rfl, rfl⟩

theorem writeThumb_completes (s : State) (rd : Reg) (v : Word) :
    Completes (.next (s.writeThumb rd v)) fun t => ThumbWrites s t rd v ∧ t.cpsr = s.cpsr :=
  ⟨_, rfl, thumbWrites_writeThumb s rd v, writeThumb_cpsr s rd v⟩

theorem bothLow_eq_false {rs rd : Reg} (h : 8 ≤ rs.val ∨ 8 ≤ rd.val) : bothLow rs rd = false := by
  rw [bothLow, Bool.and_eq_false_iff, decide_eq_false_iff_not, decide_eq_false_iff_not]
  omega

theorem bothLow_eq_true {rs rd : Reg} (hs : rs.val < 8) (hd : rd.val < 8) : bothLow rs rd = true := by
  rw [bothLow, decide_eq_true hs, decide_eq_true hd]
  rfl

section
variable {rs rd : Reg} (h : bothLow rs rd = false) (s : State)
include h

theorem exec_tAddHi : exec (.tAddHi rs rd) s = .next (s.writeThumb rd (s.regThumb rd + s.regThumb rs)) :=
  if_neg (ne_true_of_eq_false h)

theorem exec_tCmpHi : exec (.tCmpHi rs rd) s = flagResult (alu .cmp (s.regThumb rd) (s.regThumb rs) s.cpsr.c s.cpsr) s :=
  if_neg (ne_true_of_eq_false h)

theorem exec_tMovHi : exec (.tMovHi rs rd) s = .next (s.writeThumb rd (s.regThumb rs)) := if_neg (ne_true_of_eq_false h)

end

theorem exec_tBx (rs : Reg) (ig : LoReg) (s : State) : exec (.tBx false rs ig) s = branchExchange s (s.regThumb rs) := rfl

/-- Settles O50: with a high register the three operations and their flags, with two low ones their fault; BX as in ARM. -/
theorem thumbHighRegisters : Obligations.ThumbHighRegisters := by
  intro rs rd ig s
  simp only [← regThumb_eq_ite]
  refine ⟨fun hhigh => ?_, fun hs hd => ?_, rfl, ?_⟩
  · have h := bothLow_eq_false hhigh
    rw [exec_tAddHi h, exec_tCmpHi h, exec_tMovHi h, alu_arithmetic rfl]
    exact ⟨writeThumb_completes s rd _, flagResult_completes _ s, writeThumb_completes s rd _⟩
  · have h := bothLow_eq_true hs hd
    exact ⟨if_pos h, if_pos h, if_pos h⟩
  · rw [exec_tBx]
    exact ⟨branchExchange_thumb s, branchExchange_misaligned s, branchExchange_arm s⟩

/-! ### Addresses and stack adjustments (44 R690 to R693) -/

/-- An unsigned offset over `k` zero bits is the offset times `2 ^ k` (30 R313). -/
theorem zext_append_zero_eq_ofNat {n k : Nat} (off : BitVec n) : zext (off ++ 0#k) = BitVec.ofNat 32 (2 ^ k * off.toNat) := by
  rw [zext, ← BitVec.ofNat_toNat, BitVec.toNat_append, BitVec.toNat_ofNat, Nat.zero_mod, Nat.or_zero, Nat.shiftLeft_eq,
    Nat.mul_comm]

theorem zext_word_offset {n : Nat} (off : BitVec n) : zext (off ++ 0b00#2) = BitVec.ofNat 32 (4 * off.toNat) :=
  zext_append_zero_eq_ofNat off

theorem thumbLoaded_completes (rd : LoReg) (v : Word) (s : State) : Completes (thumbLoaded rd v s) (ThumbLoads s rd v) :=
  ⟨_, rfl, State.greg_setGreg_self _ _ _, rfl, rfl⟩

theorem setReg_advancePc_completes (s : State) {n : Reg} (hn : n ≠ 15) (v len : Word) :
    Completes (.next ((s.setReg n v).advancePc len)) fun t => reg t n = v ∧ t.pc = s.pc + len ∧ t.cpsr = s.cpsr :=
  ⟨_, rfl, (reg_advancePc _ len hn).trans (reg_setReg_self s hn v), congrArg (· + len) (setReg_pc s n v),
    setReg_cpsr s n v⟩

theorem exec_tAddPc (rd : LoReg) (word8 : BitVec 8) (s : State) :
    exec (.tAddPc rd word8) s = thumbLoaded rd (align4 (s.pc + 4) + BitVec.ofNat 32 (4 * word8.toNat)) s := by
  rw [← zext_word_offset]
  rfl

theorem exec_tAddSp (rd : LoReg) (word8 : BitVec 8) (s : State) :
    exec (.tAddSp rd word8) s = thumbLoaded rd (reg s 13 + BitVec.ofNat 32 (4 * word8.toNat)) s := by
  rw [← regThumb_sp, ← zext_word_offset]
  rfl

theorem exec_tAddSpImm (sword7 : BitVec 7) (s : State) :
    exec (.tAddSpImm sword7) s = .next ((s.setReg 13 (reg s 13 + BitVec.ofNat 32 (4 * sword7.toNat))).advancePc 2) := by
  rw [← regThumb_sp, ← zext_word_offset]
  rfl

theorem exec_tSubSpImm (sword7 : BitVec 7) (s : State) :
    exec (.tSubSpImm sword7) s = .next ((s.setReg 13 (reg s 13 - BitVec.ofNat 32 (4 * sword7.toNat))).advancePc 2) := by
  rw [← regThumb_sp, ← zext_word_offset]
  rfl

/-! ### Branches (46 R750, R752 to R754) -/

theorem sext_half_offset {n : Nat} (off : BitVec n) : sext (off ++ 0b0#1) = BitVec.ofInt 32 (2 * off.toInt) :=
  sext_append_zero off

theorem exec_tBcond (c : Cond) (soff8 : BitVec 8) (s : State) : exec (.tBcond c soff8) s =
    if condPass c s.cpsr then .next (s.setPc (s.pc + 4 + BitVec.ofInt 32 (2 * soff8.toInt))) else .next (s.advancePc 2) := by
  rw [← sext_half_offset]
  rfl

theorem exec_tB (off11 : BitVec 11) (s : State) :
    exec (.tB off11) s = .next (s.setPc (s.pc + 4 + BitVec.ofInt 32 (2 * off11.toInt))) := by
  rw [← sext_half_offset]
  rfl

theorem exec_tBlHi (off11 : BitVec 11) (s : State) :
    exec (.tBlHi off11) s = .next ((s.setReg 14 (s.pc + 4 + BitVec.ofInt 32 (4096 * off11.toInt))).advancePc 2) := by
  have hoff : sext (off11 ++ 0x000#12) = BitVec.ofInt 32 (4096 * off11.toInt) := sext_append_zero off11
  rw [← hoff]
  rfl

theorem exec_tBlLo_completes (off11 : BitVec 11) (s : State) : Completes (exec (.tBlLo off11) s) fun t =>
    t.pc = align2 (reg s 14 + BitVec.ofNat 32 (2 * off11.toNat)) ∧ reg t 14 = (s.pc + 2) ||| 1 ∧ t.cpsr = s.cpsr := by
  have hlr : s.regThumb 14 = reg s 14 := regThumb_eq_ite s 14
  have hoff : zext (off11 ++ 0b0#1) = BitVec.ofNat 32 (2 * off11.toNat) := zext_append_zero_eq_ofNat off11
  rw [← hlr, ← hoff]
  exact ⟨_, rfl, rfl, (reg_setPc _ _ (by decide)).trans (reg_setReg_self s (by decide) ((s.pc + 2) ||| 1)),
    setReg_cpsr s 14 ((s.pc + 2) ||| 1)⟩

/-- Settles O51: the addresses and adjustments with their offsets as numbers, and each branch with its target. -/
theorem thumbAddressesAndBranches : Obligations.ThumbAddressesAndBranches := by
  intro rd word8 soff8 sword7 off11 c s
  rw [exec_tAddPc, exec_tAddSp, exec_tAddSpImm, exec_tSubSpImm, exec_tBcond, exec_tB, exec_tBlHi]
  exact ⟨thumbLoaded_completes rd _ s, thumbLoaded_completes rd _ s, setReg_advancePc_completes s (by decide) _ 2,
    setReg_advancePc_completes s (by decide) _ 2, fun hc => if_pos hc, fun hc => if_neg (ne_true_of_eq_false hc), rfl,
    setReg_advancePc_completes s (by decide) _ 2, exec_tBlLo_completes off11 s⟩

end Sys2Proof.Claims
end

section
/-! Thumb single loads and stores: the ends that every width and extension shares, and the address of each form (45 R700 to R716). -/

namespace Sys2Proof.Claims

open Sys2Proof.Machine

/-! ### The ends of a load and of a store (45) -/

theorem thumbStored_completes (a : Word) (w : Width) (v : Word) (s : State) :
    Completes (thumbStored a w v s) (ThumbStores s (s.memWrite a w v)) :=
  have hu := State.memWrite_only s a w v
  ⟨_, rfl, ⟨rfl, rfl, rfl, rfl⟩, congrArg (· + 2) hu.pc, hu.regs, hu.cpsr⟩

section
variable {a : Word} (s : State)

theorem thumbLoadHalf_completes (h : a.getLsbD 0 = false) (signed : Bool) (rd : LoReg) :
    Completes (thumbLoadHalf signed rd a s)
      (ThumbLoads s rd (if signed then sext ((s.memRead a .b2).extractLsb' 0 16) else s.memRead a .b2)) := by
  rw [thumbLoadHalf, if_neg (ne_true_of_eq_false h)]
  exact thumbLoaded_completes rd _ s

theorem thumbStoreHalf_completes (h : a.getLsbD 0 = false) (rd : LoReg) :
    Completes (thumbStoreHalf rd a s) (ThumbStores s (s.memWrite a .b2 (s.lo rd))) := by
  rw [thumbStoreHalf, if_neg (ne_true_of_eq_false h)]
  exact thumbStored_completes a .b2 _ s

theorem thumbLoadHalf_misaligned (h : a.getLsbD 0 = true) (signed : Bool) (rd : LoReg) :
    thumbLoadHalf signed rd a s = .fault .hwMisaligned := if_pos h

theorem thumbStoreHalf_misaligned (h : a.getLsbD 0 = true) (rd : LoReg) :
    thumbStoreHalf rd a s = .fault .hwMisaligned := if_pos h

end

/-! ### Offsets as numbers (30 R313) -/

theorem zext_half_offset {n : Nat} (off : BitVec n) : zext (off ++ 0b0#1) = BitVec.ofNat 32 (2 * off.toNat) :=
  zext_append_zero_eq_ofNat off

theorem zext_byte_offset {n : Nat} (off : BitVec n) : zext off = BitVec.ofNat 32 (1 * off.toNat) := by
  rw [Nat.one_mul, BitVec.ofNat_toNat, zext]

/-! ### Loads (45 R700, R703, R704, R706 to R708, R710, R712, R714, R716) -/

/-- Settles O52: each form is one of three ends at its address, with its rotation or extension; only a halfword can be
misaligned. -/
theorem thumbLoadInstructions : Obligations.ThumbLoadInstructions := by
  intro ro rb rd off5 word8 s
  simp only [← zext_word_offset, ← zext_half_offset, ← zext_byte_offset, ← loadWord_eq_rotatedWord, ← sext_low_byte,
    ← sext_low_half, ← regThumb_sp]
  have load (v : Word) := thumbLoaded_completes rd v s
  have half {a : Word} (signed : Bool) (h : a.getLsbD 0 = false) := thumbLoadHalf_completes s h signed rd
  have odd {a : Word} (signed : Bool) (h : a.getLsbD 0 = true) := thumbLoadHalf_misaligned s h signed rd
  exact ⟨load _, load _, load _, load _, half false, half true, load _, load _, half false, load _,
    fun h => ⟨odd false h, odd true h⟩, odd false⟩

/-! ### Stores (45 R701, R702, R705, R709, R711, R713, R715) -/

/-- Settles O53: each form is the store of its width at its address; only a halfword can be misaligned. -/
theorem thumbStoreInstructions : Obligations.ThumbStoreInstructions := by
  intro ro rb rd off5 word8 s
  simp only [← zext_word_offset, ← zext_half_offset, ← zext_byte_offset, ← regThumb_sp]
  have store (a : Word) (w : Width) := thumbStored_completes a w (s.lo rd) s
  have half {a : Word} (h : a.getLsbD 0 = false) := thumbStoreHalf_completes s h rd
  have odd {a : Word} (h : a.getLsbD 0 = true) := thumbStoreHalf_misaligned s h rd
  exact ⟨store _ .b4, store _ .b1, half, store _ .b4, store _ .b1, half, store _ .b4, odd, odd⟩

end Sys2Proof.Claims
end

section
/-! Thumb block transfers: a list of low registers as a list of register numbers, and what PUSH, POP, STMIA and LDMIA move
(45 R720 to R723). -/

namespace Sys2Proof.Claims

open Sys2Proof.Machine

/-! ### Low registers by their numbers (44) -/

theorem loReg_injective : Function.Injective loReg := fun _ _ h => Fin.ext (Fin.mk.inj h)

theorem loReg_ne_of_ge (i : LoReg) {n : Reg} (hn : 8 ≤ n.val) : loReg i ≠ n := Fin.ne_of_lt (i.isLt.trans_le hn)

theorem regOf_loReg (s : State) (m : Mode) (off : Word) (i : LoReg) : s.regOf m off (loReg i) = s.lo i :=
  State.regOf_gen s off (bank_low m i)

theorem setReg_loReg (s : State) (i : LoReg) (v : Word) : s.setReg (loReg i) v = s.setGreg (.low i) v :=
  State.setRegOf_gen s v (bank_low s.cpsr.mode i)

/-- A write of another number leaves a low register. -/
theorem lo_setReg_of_ne (s : State) {n : Reg} {i : LoReg} (h : loReg i ≠ n) (v : Word) : (s.setReg n v).lo i = s.lo i := by
  rw [← regOf_loReg _ s.cpsr.mode 0, ← regOf_loReg s s.cpsr.mode 0]
  exact regOf_setRegOf_of_ne s _ _ (loReg_ne_of_ge i (by decide)) h v 0

/-! ### Loads of a block (45 R721, R723) -/

/-- A listed register gets the word of its rank. -/
theorem lo_loadRegs (s : State) (m : Mode) (a : Word) {list : BitVec 8} {i : LoReg} (hi : list.getLsbD i.val = true) :
    (s.loadRegs m a (loRegNumbers list)).lo i = wordAt s a (rank list i.val) := by
  have hrank : (loRegNumbers list)[rank list i.val]? = some (loReg i) :=
    List.getElem?_map.trans (congrArg (Option.map loReg) (getElem?_inOrder_rank hi))
  rw [← regOf_loReg _ m 0]
  exact regOf_loadRegs (nodup_inOrder.map loReg_injective) s m a 0 (loReg_ne_of_ge i (by decide)) hrank

section
variable {r : Bool} {list : BitVec 8} (h : list ≠ 0 ∨ r = true) (s : State)
include h

theorem stackCount_ne_zero : stackCount r list ≠ 0 := by
  rw [Ne, stackCount_eq_zero, Bool.and_eq_true, decide_eq_true_iff, Bool.not_eq_true']
  rintro ⟨hlist, hr⟩
  exact h.elim (absurd hlist) (ne_true_of_eq_false hr)

theorem execTPop_eq_next : execTPop r list s = .next ((popLoaded r list s).setPc
    (if r then align2 (wordAt s (reg s 13) (count list)) else s.pc + 2)) := by
  have hpc : (popLoaded r list s).pc = s.pc := (setReg_pc _ _ _).trans (loadRegs_pc _ _ _ _)
  rw [execTPop, if_neg (stackCount_ne_zero h), ← hpc, ← regThumb_sp]
  cases r with
  | false => rfl
  | true => rfl

theorem execTPop_completes : Completes (execTPop r list s) fun t =>
    (∀ i : LoReg, list.getLsbD i.val = true → t.lo i = wordAt s (reg s 13) (rank list i.val)) ∧
    reg t 13 = reg s 13 + BitVec.ofNat 32 (4 * (count list + r.toNat)) ∧ t.cpsr = s.cpsr ∧
    t.pc = if r then wordAt s (reg s 13) (count list) &&& 0xFFFFFFFE else s.pc + 2 := by
  refine ⟨_, execTPop_eq_next h s, fun i hi => ?_, ?_, (setReg_cpsr _ _ _).trans (loadRegs_cpsr _ _ _ _), rfl⟩
  · rw [← regThumb_sp]
    exact (lo_setReg_of_ne _ (loReg_ne_of_ge i (by decide)) _).trans (lo_loadRegs s _ _ hi)
  · rw [reg_setPc _ _ (by decide), ← regThumb_sp]
    exact reg_setReg_self _ (n := 13) (by decide) _

end

theorem execTLdmia_completes {rb : LoReg} {list : BitVec 8} (h : list ≠ 0) (s : State) :
    Completes (execTLdmia rb list s) fun t =>
      (∀ i : LoReg, list.getLsbD i.val = true → t.lo i = wordAt s (s.lo rb) (rank list i.val)) ∧
      (list.getLsbD rb.val = false → t.lo rb = s.lo rb + BitVec.ofNat 32 (4 * count list)) ∧
      t.pc = s.pc + 2 ∧ t.cpsr = s.cpsr := by
  have hpc := congrArg (· + 2) (loadRegs_pc (loRegNumbers list) s s.cpsr.mode (s.lo rb))
  have hcpsr := loadRegs_cpsr (loRegNumbers list) s s.cpsr.mode (s.lo rb)
  rw [execTLdmia, if_neg h]
  split
  case isTrue hrb =>
    exact ⟨_, rfl, fun i hi => lo_loadRegs s _ _ hi, fun hnot => absurd hrb (ne_true_of_eq_false hnot), hpc, hcpsr⟩
  case isFalse hrb =>
    refine ⟨_, rfl, fun i hi => ?_, fun _ => State.greg_setGreg_self _ _ _, hpc, hcpsr⟩
    have hne : GReg.low i ≠ .low rb := fun he => hrb (GReg.low.inj he ▸ hi)
    exact (State.greg_setGreg_ne _ _ _ _ hne).trans (lo_loadRegs s _ _ hi)

/-! ### Stores of a block (45 R720, R722) -/

theorem setReg_advancePc_completes_of_sameUnits {s u x : State} (hunits : SameUnits x u) (hpc : x.pc = s.pc)
    (hcpsr : x.cpsr = s.cpsr) {n : Reg} (hn : n ≠ 15) (v : Word) :
    Completes (.next ((x.setReg n v).advancePc 2)) fun t =>
      SameUnits t u ∧ reg t n = v ∧ t.pc = s.pc + 2 ∧ t.cpsr = s.cpsr := by
  rw [← hpc, ← hcpsr]
  exact ⟨_, rfl, hunits.setReg n v, (reg_advancePc _ 2 hn).trans (reg_setReg_self x hn v),
    congrArg (· + 2) (setReg_pc x n v), setReg_cpsr x n v⟩

/-- Stores end with their base written back, a free value drawn or not. -/
theorem blockStore_completes {s u : State} (hu : OnlyUnits s u) (draws : Bool) {n : Reg} (hn : n ≠ 15) (v : Word) :
    Completes (.next (((if draws then u.drawn else u).setReg n v).advancePc 2)) fun t =>
      SameUnits t u ∧ reg t n = v ∧ t.pc = s.pc + 2 ∧ t.cpsr = s.cpsr := by
  cases draws with
  | false => exact setReg_advancePc_completes_of_sameUnits ⟨rfl, rfl, rfl, rfl⟩ hu.pc hu.cpsr hn v
  | true => exact setReg_advancePc_completes_of_sameUnits (x := u.drawn) ⟨rfl, rfl, rfl, rfl⟩ hu.pc hu.cpsr hn v

theorem execTPush_completes {r : Bool} {list : BitVec 8} (h : list ≠ 0 ∨ r = true) (s : State) :
    Completes (execTPush r list s) fun t =>
      SameUnits t (storedBlock s (pushAddr r list s) (pushWords r list s)) ∧ reg t 13 = pushAddr r list s ∧
      t.pc = s.pc + 2 ∧ t.cpsr = s.cpsr := by
  rw [execTPush, if_neg (stackCount_ne_zero h), storedBlock_eq_storeWords]
  exact blockStore_completes (State.storeWords_only _ s _) false (by decide) _

/-- A listed base is drawn for where it is not of rank 0. -/
theorem stmiaValue_eq (rb : LoReg) {list : BitVec 8} (s : State) {i : LoReg} (hi : list.getLsbD i.val = true) :
    stmiaValue rb list s i =
      if i = rb ∧ rank list i.val ≠ 0 then Config.any32 .stmWbBaseNotLowest s.freeIdx else s.lo i := by
  have hdraws : (decide (i = rb) && stmiaDraws rb list) = true ↔ i = rb ∧ rank list i.val ≠ 0 := by
    rw [Bool.and_eq_true, decide_eq_true_iff]
    refine and_congr_right fun h => ?_
    subst h
    rw [stmiaDraws, hi, Bool.true_and, Bool.not_eq_true', decide_eq_false_iff_not]
    exact not_congr (head?_inOrder_eq_some_iff hi)
  exact if_congr hdraws rfl rfl

theorem execTStmia_completes {rb : LoReg} {list : BitVec 8} (h : list ≠ 0) (s : State) :
    Completes (execTStmia rb list s) fun t =>
      SameUnits t (storedBlock s (s.lo rb) ((inOrder list).map (stmiaValue rb list s))) ∧
      t.lo rb = s.lo rb + BitVec.ofNat 32 (4 * count list) ∧ t.pc = s.pc + 2 ∧ t.cpsr = s.cpsr := by
  rw [execTStmia, if_neg h, storedBlock_eq_storeWords, ← setReg_loReg]
  obtain ⟨t, ht, hunits, hreg, hend⟩ := blockStore_completes (State.storeWords_only _ s _) (stmiaDraws rb list)
    (loReg_ne_of_ge rb (by decide)) (s.lo rb + BitVec.ofNat 32 (4 * count list))
  exact ⟨t, ht, hunits, (regOf_loReg t _ 0 rb).symm.trans hreg, hend⟩

/-- Settles O54: the four transfers of a list that is not empty, and their fault where it is. -/
theorem thumbStackAndBlocks : Obligations.ThumbStackAndBlocks := by
  intro r rb list s n stacked value
  have hvalues : (inOrder list).map value = (inOrder list).map (stmiaValue rb list s) :=
    List.map_congr_left fun i hi => (stmiaValue_eq rb s (mem_inOrder.mp hi)).symm
  have hstacked : stacked = pushWords r list s := by rw [pushWords, regThumb_eq_ite]; rfl
  have hpush : reg s 13 - BitVec.ofNat 32 (4 * n) = pushAddr r list s := by rw [pushAddr, regThumb_sp]; rfl
  rw [hvalues, hstacked, hpush]
  exact ⟨fun h => ⟨execTPush_completes h s, execTPop_completes h s⟩,
    fun h => ⟨execTStmia_completes h s, execTLdmia_completes h s⟩, rfl, rfl, rfl, rfl⟩

end Sys2Proof.Claims
end

section
/-! The system calls of the BiosHLE (47): which routine a number has, what any of them leaves alone, and the calls that wait or move
units. -/

namespace Sys2Proof.Claims

open Sys2Proof.Machine

/-! ### Dispatch (47 R800 to R803) -/

/-- The dispatch table: a number, and the state its routine leaves but for the PC (47 R801). -/
inductive RoutineLeaves (s : State) : Byte → State → Prop where
  | registerRamReset : RoutineLeaves s 0x01 (registerRamReset s)
  | halt : RoutineLeaves s 0x02 (haltCall s)
  | stop : RoutineLeaves s 0x03 (stopCall s)
  | intrWait : RoutineLeaves s 0x04 (intrWaitCall s)
  | vblankIntrWait : RoutineLeaves s 0x05 (vblankIntrWaitCall s)
  | div : RoutineLeaves s 0x06 (divCall s)
  | divArm : RoutineLeaves s 0x07 (divArmCall s)
  | cpuSet : RoutineLeaves s 0x0B (cpuSet s)
  | cpuFastSet : RoutineLeaves s 0x0C (cpuFastSet s)
  | biosChecksum : RoutineLeaves s 0x0D (biosChecksum s)
  | lz77 : RoutineLeaves s 0x11 (lz77 s)

theorem routineLeaves_of_hleRoutine {n : Byte} {s t : State} (h : hleRoutine n s = some t) : RoutineLeaves s n t := by
  have hofNat : BitVec.ofNat 8 n.toNat = n := (BitVec.ofNat_toNat 8 n).trans n.setWidth_eq
  unfold hleRoutine at h
  split at h <;> cases h
  all_goals
    next hn =>
      rw [← hofNat, hn]
      constructor

theorem hasRoutine_of_hleRoutine {n : Byte} {s t : State} (h : hleRoutine n s = some t) : hasRoutine n = true := by
  cases routineLeaves_of_hleRoutine h <;> rfl

theorem hleRoutine_eq_none {n : Byte} (h : hasRoutine n = false) (s : State) : hleRoutine n s = none :=
  Option.eq_none_iff_forall_ne_some.mpr fun _ ht => Bool.false_ne_true (h.symm.trans (hasRoutine_of_hleRoutine ht))

/-- 47 R803. -/
theorem hleRoutine_greg {n : Byte} {s t : State} (h : hleRoutine n s = some t) {g : GReg} (hg : g ∉ callOutputs n) :
    t.greg g = s.greg g := by
  have hdiv (num den : Int) (h6 : g ∉ callOutputs 0x06) : (divOutputs num den s).greg g = s.greg g := by
    have h013 : g ∉ [GReg.low 0, .low 1, .low 3] := h6
    simp only [List.mem_cons, List.not_mem_nil, or_false, not_or] at h013
    obtain ⟨h0, h1, h3⟩ := h013
    rw [divOutputs, State.greg_setGreg_ne _ _ _ _ h3, State.greg_setGreg_ne _ _ _ _ h1, State.greg_setGreg_ne _ _ _ _ h0]
  cases routineLeaves_of_hleRoutine h with
  | registerRamReset => exact State.greg_congr (OnlyUnits.registerRamReset s).regs g
  | halt | stop | intrWait | vblankIntrWait => rfl
  | div | divArm => exact hdiv _ _ hg
  | cpuSet | cpuFastSet => exact State.greg_congr (OnlyUnits.moveUnits _ _ _ _ _ s).regs g
  | biosChecksum => exact State.greg_setGreg_ne _ _ _ _ fun h0 => hg (h0 ▸ List.mem_cons_self)
  | lz77 => exact State.greg_congr (OnlyUnits.lz77 s).regs g

theorem sameHost_of_keeps {s t : State} (k : Keeps s t) : SameHost s t :=
  ⟨k.faulted, k.cycleCount, k.instrCount, k.params, k.pendingCycles, k.callback, k.delivered⟩

section

variable {i : Instr} {n : Byte} {len : Word} {s t : State} (hhle : s.params.hleInstalled = true) (hcall : IsCall i n len s)
include hhle hcall

theorem exec_call : exec i s = .next (callHle n len s) := (exec_of_isCall hcall).trans (if_pos hhle)

theorem exec_routine (hn : n ≠ 0) (ht : hleRoutine n s = some t) : exec i s = .next (t.advancePc len) := by
  rw [exec_call hhle hcall, callHle, if_neg hn, ht]

theorem exec_withoutRoutine (hn : n ≠ 0) (ht : hleRoutine n s = none) :
    exec i s = .next ((s.report (.unimplementedSyscall n)).advancePc len) := by
  rw [exec_call hhle hcall, callHle, if_neg hn, ht]

theorem call_completes (hn : n ≠ 0) :
    Completes (exec i s) fun t =>
      t.pc = s.pc + len ∧ t.cpsr = s.cpsr ∧ t.spsr = s.spsr ∧ (∀ g, g ∉ callOutputs n → t.greg g = s.greg g) ∧
        SameHost s t := by
  cases ht : hleRoutine n s with
  | some t =>
    have hexec := exec_routine hhle hcall hn ht
    obtain ⟨hpc, hcpsr, hspsr⟩ := hleRoutine_sameStatus ht
    exact ⟨_, hexec, congrArg (· + len) hpc, hcpsr, hspsr, fun g hg => hleRoutine_greg ht hg,
      sameHost_of_keeps (exec_keeps i s _ hexec)⟩
  | none =>
    exact ⟨_, exec_withoutRoutine hhle hcall hn ht, rfl, rfl, rfl, fun _ _ => rfl, ⟨rfl, rfl, rfl, rfl, rfl, rfl, rfl⟩⟩

end

/-- Settles O40: by the dispatch table, what each routine leaves alone, and the number without a routine. -/
theorem systemCallsReturnAndReport : Obligations.SystemCallsReturnAndReport := by
  intro i n len s hhle hcall
  refine ⟨call_completes hhle hcall, fun h => ?_, fun h => ?_⟩
  · have hn : n ≠ 0 := by rintro rfl; cases h
    exact exec_withoutRoutine hhle hcall hn (hleRoutine_eq_none h s)
  · subst h
    exact ⟨_, exec_routine hhle hcall (by decide) rfl, State.greg_setGreg_self s (.low 0) _, rfl, rfl, rfl, rfl⟩

/-- Settles O43: each routine as it is, the mask as the low half of r1. -/
theorem waitCalls : Obligations.WaitCalls := by
  intro i len s hhle
  refine ⟨fun h => exec_routine hhle h (by decide) rfl, fun h => exec_routine hhle h (by decide) rfl, fun h => ?_,
    fun h => exec_routine hhle h (by decide) rfl⟩
  have hmask : (s.arg 1).extractLsb' 0 16 = (s.arg 1).setWidth 16 := (BitVec.setWidth_eq_extractLsb' (by decide)).symm
  rw [exec_routine hhle h (by decide) (t := intrWaitCall s) rfl, intrWaitCall, hmask]
  by_cases h0 : s.arg 0 = 0 <;> simp [intrWait, State.advancePc, State.setPc, h0]

/-! ### Block copy and fill (47 R818, R819) -/

theorem word_add_mul_succ (a : Word) (w : Width) (k : Nat) :
    a + BitVec.ofNat 32 ((k + 1) * w.bytes) = a + unitStep w + BitVec.ofNat 32 (k * w.bytes) := by
  rw [Nat.succ_mul, Nat.add_comm, BitVec.ofNat_add, BitVec.add_assoc]
  rfl

theorem foldl_memWrite_eq_fillUnits (n : Nat) (w : Width) (dst v : Word) (s : State) :
    (List.range n).foldl (fun u i => u.memWrite (dst + BitVec.ofNat 32 (i * w.bytes)) w v) s = fillUnits n w dst v s := by
  induction n generalizing dst s with
  | zero => rfl
  | succ n ih =>
    rw [List.range_succ_eq_map, List.foldl_cons, List.foldl_map, fillUnits, ← ih, Nat.zero_mul, BitVec.add_zero]
    simp only [Nat.succ_eq_add_one, word_add_mul_succ]

theorem foldl_memWrite_eq_copyUnits (n : Nat) (w : Width) (src dst : Word) (s : State) :
    (List.range n).foldl (fun u i => u.memWrite (dst + BitVec.ofNat 32 (i * w.bytes)) w
      (u.memRead (src + BitVec.ofNat 32 (i * w.bytes)) w)) s = copyUnits n w src dst s := by
  induction n generalizing src dst s with
  | zero => rfl
  | succ n ih =>
    rw [List.range_succ_eq_map, List.foldl_cons, List.foldl_map, copyUnits, ← ih, Nat.zero_mul, BitVec.add_zero,
      BitVec.add_zero]
    simp only [Nat.succ_eq_add_one, word_add_mul_succ]

/-- The units in ascending order, as the model's two loops move them. -/
theorem movedUnits_eq_moveUnits (fill : Bool) (n : Nat) (w : Width) (src dst : Word) (s : State) :
    movedUnits fill n w src dst s = moveUnits fill n w src dst s := by
  cases fill with
  | true => exact foldl_memWrite_eq_fillUnits n w dst _ s
  | false => exact foldl_memWrite_eq_copyUnits n w src dst s

theorem setCount_eq (ctrl : Word) : setCount ctrl = ctrl.toNat % 0x200000 := by
  rw [setCount, BitVec.toNat_and]
  exact Nat.and_two_pow_sub_one_eq_mod ctrl.toNat 21

theorem fastSetCount_eq (ctrl : Word) : fastSetCount ctrl = ctrl.toNat % 0x200000 / 8 * 8 := by
  have h : ctrl &&& (0x1FFFF8 : Word) = ((ctrl &&& (0x1FFFFF : Word)) >>> 3) <<< 3 := by
    ext i hi
    have := hi
    interval_cases i <;> simp
  have hlt : ctrl.toNat % 0x200000 < 0x200000 := Nat.mod_lt _ (by decide)
  rw [fastSetCount, h, BitVec.toNat_shiftLeft, BitVec.toNat_ushiftRight, Nat.shiftLeft_eq, Nat.shiftRight_eq_div_pow,
    ← setCount, setCount_eq]
  omega

/-- A call whose routine touches units alone leaves its units, the registers, and the PC after the SWI. -/
theorem unitCall_completes {i : Instr} {n : Byte} {len : Word} {s t : State} (hhle : s.params.hleInstalled = true)
    (hcall : IsCall i n len s) (hn : n ≠ 0) (ht : hleRoutine n s = some t) (hu : OnlyUnits s t) :
    Completes (exec i s) fun u => SameUnits u t ∧ u.regs = s.regs ∧ u.pc = s.pc + len :=
  ⟨_, exec_routine hhle hcall hn ht, ⟨rfl, rfl, rfl, rfl⟩, hu.regs, congrArg (· + len) hu.pc⟩

/-- Settles O44: the two calls are the model's loops, with the counts as numbers. -/
theorem blockCopyCalls : Obligations.BlockCopyCalls := by
  intro i len s hhle
  refine ⟨fun h => ?_, fun h => ?_⟩
  · rw [movedUnits_eq_moveUnits, ← setCount_eq]
    exact unitCall_completes hhle h (by decide) rfl (OnlyUnits.moveUnits _ _ _ _ _ s)
  · rw [movedUnits_eq_moveUnits, ← fastSetCount_eq]
    exact unitCall_completes hhle h (by decide) rfl (OnlyUnits.moveUnits _ _ _ _ _ s)

end Sys2Proof.Claims
end

section
/-! The division calls of the BiosHLE (47 R816, R817, R825). -/

namespace Sys2Proof.Claims

open Sys2Proof.Machine

/-- The integers that a word holds. -/
def IsWord (x : Int) : Prop := -2147483648 ≤ x ∧ x < 2147483648

theorem toInt_wordOfInt {x : Int} (h : IsWord x) : (wordOfInt x).toInt = x :=
  BitVec.toInt_ofInt_eq_self (by decide) h.1 h.2

/-- 47 R825: the remainder of truncating division is below the denominator and has the numerator's sign. -/
theorem tmod_bounds {num den : Int} (hden : den ≠ 0) :
    (num.tmod den).natAbs < den.natAbs ∧ (num.tmod den ≠ 0 → (num.tmod den < 0 ↔ num < 0)) := by
  constructor
  · rw [Int.natAbs_tmod]
    exact Nat.mod_lt _ (Int.natAbs_pos.mpr hden)
  · intro hr
    have hsign := Int.sign_tmod num den
    split at hsign
    case isTrue => exact absurd (Int.sign_eq_zero_iff_zero.mp hsign) hr
    case isFalse => rw [← Int.sign_eq_neg_one_iff_neg, hsign, Int.sign_eq_neg_one_iff_neg]

/-- The overflow pair apart, the quotient of two words is a word. -/
theorem tdiv_isWord {num den : Int} (hnum : IsWord num) (hden : den ≠ 0) (hpair : ¬(num = -2147483648 ∧ den = -1)) :
    IsWord (num.tdiv den) := by
  obtain ⟨hlo, hhi⟩ := hnum
  have habs : (num.tdiv den).natAbs ≤ num.natAbs := Int.natAbs_tdiv_le_natAbs num den
  have hne : num.tdiv den ≠ 2147483648 := by
    intro hq
    have hmul := Int.mul_tdiv_add_tmod num den
    have hrem := (tmod_bounds (num := num) hden).1
    rw [hq] at hmul
    omega
  unfold IsWord
  omega

theorem divResult_of_regular {num den : Int} (hden : den ≠ 0) (hpair : ¬(num = -2147483648 ∧ den = -1)) :
    divResult num den = (num.tdiv den, num.tmod den) := by
  rw [divResult, if_neg hden, if_neg hpair, Int.tmod_def]

/-- The three registers that Div writes. -/
theorem divOutputs_arg (num den : Int) (s : State) :
    (divOutputs num den s).arg 0 = wordOfInt (divResult num den).1 ∧
    (divOutputs num den s).arg 1 = wordOfInt (divResult num den).2 ∧
    (divOutputs num den s).arg 3 = wordOfInt (divResult num den).1.natAbs := by
  simp [divOutputs, State.arg, State.greg_setGreg]

/-- 47 R816: the three cases of the division of two words. -/
theorem divOutputs_leaves {num den : Int} (hnum : IsWord num) (hden : IsWord den) (s : State) :
    DivLeaves (divOutputs num den s) num den := by
  obtain ⟨h0, h1, h3⟩ := divOutputs_arg num den s
  refine ⟨fun hzero => ?_, fun hpair => ?_, fun hzero hpair => ?_⟩
  · rw [h0, h1, h3, divResult, if_pos hzero]
    by_cases hneg : num < 0 <;> simp only [hneg, if_true, if_false] <;> exact ⟨rfl, rfl, rfl⟩
  · obtain ⟨rfl, rfl⟩ := hpair
    rw [h0, h1, h3]
    decide
  · obtain ⟨hlt, hsign⟩ := tmod_bounds (num := num) hzero
    have hq := tdiv_isWord hnum hzero hpair
    have hr : IsWord (num.tmod den) := by
      unfold IsWord at hden ⊢
      omega
    rw [divResult_of_regular hzero hpair] at h0 h1 h3
    rw [h0, h1, h3, toInt_wordOfInt hq, toInt_wordOfInt hr]
    exact ⟨(Int.mul_tdiv_add_tmod num den).symm, hlt, hsign, BitVec.ofInt_natCast 32 _⟩

/-- A call that divides leaves the outputs of Div, and nothing else changes but the PC. -/
theorem divisionCall_completes {i : Instr} {n : Byte} {len : Word} {s : State} (hhle : s.params.hleInstalled = true)
    (hcall : IsCall i n len s) (hn : n ≠ 0) {num den : Word}
    (ht : hleRoutine n s = some (divOutputs num.toInt den.toInt s)) :
    Completes (exec i s) fun t =>
      DivLeaves t num.toInt den.toInt ∧ (∀ g, g ∉ callOutputs n → t.greg g = s.greg g) ∧ t.cpsr = s.cpsr ∧
        t.pc = s.pc + len ∧ SameUnits t s :=
  ⟨_, exec_routine hhle hcall hn ht, divOutputs_leaves (toInt_bounds num) (toInt_bounds den) s,
    fun _ hg => hleRoutine_greg ht hg, rfl, rfl, rfl, rfl, rfl, rfl⟩

/-- Settles O41: both calls are one division of the integers in r0 and r1. -/
theorem divisionCalls : Obligations.DivisionCalls := fun _ _ _ hhle =>
  ⟨fun h => divisionCall_completes hhle h (by decide) rfl, fun h => divisionCall_completes hhle h (by decide) rfl⟩

end Sys2Proof.Claims
end

section
/-! The LZ77 decoder writes the destination bytes of its header and no other (47 R821, R823). -/

namespace Sys2Proof.Claims

open Sys2Proof.Machine

/-- The `size` bytes from `dst`. -/
def bytesFrom (dst : Word) (size : Nat) : List Word := (List.range size).map fun k => dst + BitVec.ofNat 32 k

theorem mem_bytesFrom {dst : Word} {size : Nat} {b : Word} :
    b ∈ bytesFrom dst size ↔ ∃ k, k < size ∧ dst + BitVec.ofNat 32 k = b := by
  simp [bytesFrom]

/-- A position at which the decoder goes on has bytes left to write. -/
theorem out_lt_of_not_done {x : LzPos} {size : Nat} (h : ¬(x.stop || decide (size ≤ x.out)) = true) : x.out < size := by
  simp only [Bool.or_eq_true, decide_eq_true_eq, not_or] at h
  obtain ⟨-, hout⟩ := h
  exact Nat.lt_of_not_le hout

namespace Wrote

variable {dst : Word} {size : Nat} {s t : State} {x : LzPos}

/-- One more byte of those allowed. -/
theorem memWrite_byte (h : Wrote (bytesFrom dst size) s t) {k : Nat} (hk : k < size) (v : Word) :
    Wrote (bytesFrom dst size) s (t.memWrite (dst + BitVec.ofNat 32 k) .b1 v) := by
  obtain ⟨hext, hbytes⟩ := h.trans (memWrite t (dst + BitVec.ofNat 32 k) .b1 v)
  refine ⟨hext, fun a ha => hbytes a fun b hb => ?_⟩
  obtain hb | hb := List.mem_append.mp hb
  · exact ha b hb
  · exact ha b (mem_bytesFrom.mpr ⟨k, hk, (List.mem_singleton.mp hb).symm⟩)

theorem lzCopy (len disp : Nat) (h : Wrote (bytesFrom dst size) s x.st) :
    Wrote (bytesFrom dst size) s (lzCopy len dst size disp x).st := by
  induction len generalizing x with
  | zero => exact h
  | succ len ih =>
    unfold Machine.lzCopy
    split
    case isTrue hout =>
      refine ih ?_
      dsimp only
      exact h.memWrite_byte hout _
    case isFalse => exact h

theorem lzToken (ref : Bool) (hout : x.out < size) (h : Wrote (bytesFrom dst size) s x.st) :
    Wrote (bytesFrom dst size) s (lzToken ref dst size x).st := by
  cases ref with
  | false =>
    simp only [Machine.lzToken, Bool.false_eq_true, if_false]
    exact h.memWrite_byte hout _
  | true =>
    simp only [Machine.lzToken, if_true]
    split
    case isTrue => exact h
    case isFalse => exact lzCopy (x := { x with p := x.p + 2 }) _ _ h

theorem lzTokens (k : Nat) (flags : Word) (h : Wrote (bytesFrom dst size) s x.st) :
    Wrote (bytesFrom dst size) s (lzTokens k flags dst size x).st := by
  induction k generalizing x with
  | zero => exact h
  | succ k ih =>
    unfold Machine.lzTokens
    split
    case isTrue => exact h
    case isFalse hgo => exact ih (lzToken _ (out_lt_of_not_done hgo) h)

theorem lzStream (fuel : Nat) (h : Wrote (bytesFrom dst size) s x.st) :
    Wrote (bytesFrom dst size) s (lzStream fuel dst size x).st := by
  induction fuel generalizing x with
  | zero => exact h
  | succ fuel ih =>
    unfold Machine.lzStream
    split
    case isTrue => exact h
    case isFalse => exact ih (lzTokens (x := { x with p := x.p + 1 }) 8 _ h)

theorem lz77 (s : State) : Wrote (bytesFrom (s.arg 1) (lzSize s (s.arg 0))) s (lz77 s) := by
  unfold Machine.lz77
  split
  case isTrue => exact lzStream _ (refl _ s)
  case isFalse => exact refl _ s

end Wrote

theorem lz77_of_other_tag {s : State} (h : s.memRead (s.arg 0) .b1 ≠ 0x10) : lz77 s = s := if_neg h

/-- Settles O45: the decoder writes only below the size, as the model reads it from the header. -/
theorem lzDecoderStaysInBounds : Obligations.LzDecoderStaysInBounds := by
  intro i len s hhle hcall size
  have hsize : size = lzSize s (s.arg 0) := by rw [lzSize, Nat.mul_comm _ 256, Nat.mul_comm _ 65536]
  have hexec := exec_routine hhle hcall (by decide) (t := lz77 s) rfl
  have hu := OnlyUnits.lz77 s
  refine ⟨_, hexec, congrArg (· + len) hu.pc, hu.regs, fun htag => ?_, fun a ha => ?_⟩
  · rw [lz77_of_other_tag htag]
    exact ⟨rfl, rfl, rfl, rfl⟩
  · refine ((Wrote.lz77 s).advancePc len).bytes a fun b hb => ?_
    obtain ⟨k, hk, rfl⟩ := mem_bytesFrom.mp hb
    exact ha k (hsize ▸ hk)

end Sys2Proof.Claims
end

section
/-! SoftReset and RegisterRamReset: the bytes they clear and the registers they leave (47 R810, R811). -/

namespace Sys2Proof.Claims

open Sys2Proof.Machine

/-! ### Keys as addresses (20 R201, R204) -/

/-- The key of a region's byte is an address of that byte. -/
theorem regionOf_key {r : Region} {off : Nat} (h : off < r.size) : regionOf (BitVec.ofNat 32 (r.base + off)) = r := by
  have htop : ((BitVec.ofNat 32 (r.base + off)).extractLsb' 24 8).toNat = r.base / 0x1000000 := by
    rw [BitVec.extractLsb'_toNat, BitVec.toNat_ofNat, Nat.shiftRight_eq_div_pow]
    cases r <;> simp only [Region.size, Region.base] at h ⊢ <;> omega
  unfold regionOf
  rw [htop]
  cases r <;> rfl

theorem region_eq_of_key_eq {r r' : Region} {off off' : Nat} (h : off < r.size) (h' : off' < r'.size)
    (hk : r.base + off = r'.base + off') : r = r' := by
  rw [← regionOf_key h, hk, regionOf_key h']

/-! ### Bytes of IWRAM, SHADOW among them (20 R230) -/

theorem offsetOf_of_iwram {a : Word} (h : regionOf a = .iwram) : offsetOf a = (a.extractLsb' 0 15).toNat := by
  unfold offsetOf
  rw [h, BitVec.extractLsb'_toNat, BitVec.extractLsb'_toNat]
  exact Nat.mod_mod_of_dvd _ (by decide)

theorem deviceAt_eq_shadow {r : Region} {h : Nat} (hd : deviceAt r h = some .shadow) : r = .iwram := by
  cases r with
  | iwram => rfl
  | io =>
    have hio : ioDevice h = some .shadow := hd
    unfold ioDevice at hio
    split at hio <;> cases hio
  | _ => cases hd

theorem place_iwram (s : State) {a : Word} (h : regionOf a = .iwram) :
    s.place a = if offsetOf a / 2 = 0x3FFC then .dev .shadow (offsetOf a % 2 = 1) else .ram (Region.iwram.base + offsetOf a) := by
  have hp : s.place a = storagePlace .iwram (offsetOf a) := (placeOf_storage _ (.inr h)).trans (by rw [h])
  rw [hp]
  unfold storagePlace deviceAt
  by_cases hs : offsetOf a / 2 = 0x3FFC <;> simp [hs]

/-- Only addresses of IWRAM share a place with one. -/
theorem regionOf_eq_iwram_of_place_eq {s : State} {a b : Word} (hb : regionOf b = .iwram) (h : s.place a = s.place b) :
    regionOf a = .iwram := by
  have hoff := offsetOf_lt b
  rw [hb] at hoff
  rw [place_iwram s hb] at h
  split at h
  case isTrue => exact deviceAt_eq_shadow (placeOf_dev h).1
  case isFalse =>
    obtain ⟨hk, -, -⟩ | ⟨hk, -⟩ := key_of_place_ram h
    · exact region_eq_of_key_eq (offsetOf_lt a) hoff hk.symm
    · have hend : Region.iwram.base + Region.iwram.size ≤ sramBase := by decide
      omega

/-- The addresses of one byte of IWRAM are its mirrors. -/
theorem place_eq_iwram_iff (s : State) {a b : Word} (hb : regionOf b = .iwram) :
    s.place a = s.place b ↔ regionOf a = .iwram ∧ offsetOf a = offsetOf b := by
  constructor
  · intro h
    have ha := regionOf_eq_iwram_of_place_eq hb h
    rw [place_iwram s ha, place_iwram s hb] at h
    refine ⟨ha, ?_⟩
    split at h <;> split at h
    · obtain ⟨-, hlane⟩ := Place.dev.inj h
      have hodd := decide_eq_decide.mp hlane
      omega
    · cases h
    · cases h
    · exact Nat.add_left_cancel (Place.ram.inj h)
  · rintro ⟨ha, ho⟩
    exact place_eq_of_offsetOf_eq s (ha.trans hb.symm) (by rw [ha]; decide) ho

theorem laneOf_withLane_self (other : Half) (lane1 : Bool) (b : Byte) : laneOf (withLane other lane1 b) lane1 = b := by
  cases lane1 with
  | false => exact BitVec.extractLsb'_append_eq_right
  | true => exact BitVec.extractLsb'_append_eq_left

/-- A byte write to IWRAM reaches its storage or SHADOW. -/
theorem write8_iwram (s : State) {a : Word} (h : regionOf a = .iwram) (b : Byte) :
    ∃ m sh, s.write8 a b = { s with mem := m, ic := { s.ic with shadow := sh } } := by
  have hp := place_iwram s h
  split at hp
  · exact ⟨s.mem, _, write8_dev hp b⟩
  · exact ⟨_, s.ic.shadow, write8_ram hp b⟩

/-- A byte written to IWRAM reads back at its mirrors, and every other byte of memory as before. -/
theorem read8_write8_iwram (s : State) {a : Word} (h : regionOf a = .iwram) (b : Byte) (c : Word) :
    (s.write8 a b).read8 c = if regionOf c = .iwram ∧ offsetOf c = offsetOf a then b else s.read8 c := by
  have hp := place_iwram s h
  split
  case isTrue hc =>
    have hplace := (place_eq_iwram_iff s h).mpr hc
    split at hp
    · rw [read8_dev ((place_write8 s a c b).trans (hplace.trans hp)), write8_dev hp, State.devWriteByte, devRead_devWrite_self]
      exact laneOf_withLane_self _ _ _
    · rw [read8_write8_ram hp, if_pos (hplace.trans hp)]
  case isFalse hc =>
    refine read8_write8_of_not_samePlace ?_ b
    rintro (hplace | ⟨_, _, _, hext⟩)
    · exact hc ((place_eq_iwram_iff s h).mp hplace)
    · split at hp <;> cases hp.symm.trans hext

/-! ### The bytes that SoftReset clears -/

/-- The lowest address of a byte of IWRAM. -/
def iwramAt (o : Nat) : Word := BitVec.ofNat 32 (Region.iwram.base + o)

theorem iwramAt_add_one (o : Nat) : iwramAt o + 1 = iwramAt (o + 1) := (BitVec.ofNat_add _ 1).symm

theorem regionOf_iwramAt {o : Nat} (h : o < 0x8000) : regionOf (iwramAt o) = .iwram := regionOf_key (r := .iwram) h

theorem offsetOf_iwramAt {o : Nat} (h : o < 0x8000) : offsetOf (iwramAt o) = o := by
  rw [offsetOf_of_iwram (regionOf_iwramAt h), iwramAt, BitVec.extractLsb'_toNat, BitVec.toNat_ofNat]
  simp only [Region.base]
  omega

/-- Zeroing bytes of IWRAM reaches its storage and SHADOW alone. -/
theorem zeroBytes_iwram (k : Nat) {o : Nat} (h : o + k ≤ 0x8000) (s : State) :
    ∃ m sh, zeroBytes k (iwramAt o) s = { s with mem := m, ic := { s.ic with shadow := sh } } := by
  induction k generalizing o s with
  | zero => exact ⟨s.mem, s.ic.shadow, rfl⟩
  | succ k ih =>
    obtain ⟨m, sh, hw⟩ := write8_iwram s (regionOf_iwramAt (o := o) (by omega)) (byteOf 0 0)
    rw [zeroBytes, iwramAt_add_one, State.memWrite, hw]
    obtain ⟨m', sh', hz⟩ := ih (o := o + 1) (by omega) { s with mem := m, ic := { s.ic with shadow := sh } }
    exact ⟨m', sh', hz⟩

theorem read8_zeroBytes_iwram (k : Nat) {o : Nat} (h : o + k ≤ 0x8000) (s : State) (c : Word) :
    (zeroBytes k (iwramAt o) s).read8 c =
      if regionOf c = .iwram ∧ o ≤ offsetOf c ∧ offsetOf c < o + k then 0 else s.read8 c := by
  induction k generalizing o s with
  | zero => exact (if_neg (by omega)).symm
  | succ k ih =>
    have hr := regionOf_iwramAt (o := o) (by omega)
    have hzero : byteOf 0 0 = 0 := rfl
    rw [zeroBytes, iwramAt_add_one, State.memWrite, ih (by omega), read8_write8_iwram s hr, offsetOf_iwramAt (by omega),
      hzero]
    by_cases hc : regionOf c = .iwram
    · simp only [hc, true_and]
      split_ifs <;> first | rfl | omega
    · simp only [hc, false_and, if_false]

/-! ### The registers that SoftReset leaves -/

theorem zeroRegs_greg (gs : List GReg) (s : State) (g : GReg) :
    (zeroRegs gs s).greg g = if g ∈ gs then 0 else s.greg g := by
  induction gs generalizing s with
  | nil => rfl
  | cons g' rest ih =>
    rw [zeroRegs, ih, State.greg_setGreg]
    by_cases hg : g = g' <;> simp [hg]

theorem zeroRegs_sameUnits (gs : List GReg) (s : State) :
    SameUnits (zeroRegs gs s) s ∧ (zeroRegs gs s).params = s.params := by
  induction gs generalizing s with
  | nil => exact ⟨⟨rfl, rfl, rfl, rfl⟩, rfl⟩
  | cons g rest ih => exact ih (s.setGreg g 0)

@[simp] theorem read8_setPc (s : State) (v a : Word) : (s.setPc v).read8 a = s.read8 a :=
  State.read8_congr rfl rfl rfl rfl rfl a

@[simp] theorem read8_advancePc (s : State) (v a : Word) : (s.advancePc v).read8 a = s.read8 a := read8_setPc s _ a

/-- What SoftReset leaves in a register, from what it held (47 R810). -/
def softResetValue (g : GReg) (old : Word) : Word :=
  match g with
  | .low _ | .mid false _ => 0
  | .sp .svc => 0x03007FE0
  | .sp .irq => 0x03007FA0
  | .sp .usr => 0x03007F00
  | .lr .svc | .lr .irq | .lr .usr => 0
  | .mid true _ | .sp .fiq | .sp .abt | .sp .und | .lr .fiq | .lr .abt | .lr .und => old

theorem zeroRegs_softResetBanks_greg (u : State) (g : GReg) :
    (zeroRegs userR0toR12 (softResetBanks u)).greg g = softResetValue g (u.greg g) := by
  rw [zeroRegs_greg]
  cases g with
  | low k => simp [userR0toR12, softResetValue]
  | mid fiq k => cases fiq <;> simp [userR0toR12, softResetValue, softResetBanks, State.greg_setGreg]
  | sp b | lr b => cases b <;> simp [userR0toR12, softResetValue, softResetBanks, State.greg_setGreg]

theorem softResetBanks_resetSpsr (u : State) {e : Exc} (he : e = .svc ∨ e = .irq) :
    (softResetBanks u).spsrOf e = resetSpsr := by
  obtain rfl | rfl := he <;> simp [softResetBanks, State.spsrOf_setSpsr]

/-- The registers that SoftReset sets are no part of memory, devices or cartridge. -/
theorem zeroRegs_softResetBanks_sameUnits (gs : List GReg) (u : State) :
    SameUnits (zeroRegs gs (softResetBanks u)) u ∧ (zeroRegs gs (softResetBanks u)).params = u.params :=
  zeroRegs_sameUnits gs (softResetBanks u)

/-- SoftReset's first part: the top of IWRAM is cleared (47 R810). -/
def topCleared (s : State) : State := zeroBytes 0x200 (iwramAt 0x7E00) s

theorem topCleared_only (s : State) : OnlyUnits s (topCleared s) := .zeroBytes _ _ (.refl s)

theorem topCleared_read8 (s : State) (a : Word) :
    (topCleared s).read8 a = if regionOf a = .iwram ∧ 0x7E00 ≤ (a.extractLsb' 0 15).toNat then 0 else s.read8 a := by
  rw [topCleared, read8_zeroBytes_iwram 0x200 (by decide)]
  by_cases hr : regionOf a = .iwram
  · have hlt : (a.extractLsb' 0 15).toNat < 0x7E00 + 0x200 := (a.extractLsb' 0 15).isLt
    simp only [offsetOf_of_iwram hr, hlt, and_true]
  · simp only [hr, false_and]

/-- SHADOW is the halfword at 0x03007FF8 (20 R230). -/
theorem shadow_eq_read8 (s : State) : s.ic.shadow = s.read8 0x03007FF9 ++ s.read8 0x03007FF8 :=
  (laneOf_append s.ic.shadow).symm

theorem topCleared_devices (s : State) :
    (topCleared s).ic = { s.ic with shadow := 0 } ∧ (topCleared s).ppu = s.ppu := by
  have hshadow : (topCleared s).ic.shadow = 0 := by
    rw [shadow_eq_read8, topCleared_read8, topCleared_read8, if_pos (by decide), if_pos (by decide)]
    rfl
  obtain ⟨m, sh, hu⟩ := zeroBytes_iwram 0x200 (o := 0x7E00) (by decide) s
  rw [topCleared, hu] at hshadow ⊢
  exact ⟨congrArg (fun x => { s.ic with shadow := x }) hshadow, rfl⟩

theorem zext_byte_eq_zero {b : Byte} : zext b = 0 ↔ b = 0 := by
  rw [← BitVec.toNat_inj, ← BitVec.toNat_inj, zext, BitVec.toNat_setWidth_of_le (by decide)]
  rfl

theorem softReset_eq_topCleared (s : State) :
    softReset s = (zeroRegs userR0toR12 (softResetBanks (topCleared s))).setPc
      (if s.read8 0x03007FFA = 0 then 0x08000000 else 0x02000000) := by
  have hflag : s.memRead 0x03007FFA .b1 = zext (s.read8 0x03007FFA) := memRead_byte (by decide)
  have htop : 0x03007E00 = iwramAt 0x7E00 := rfl
  rw [softReset_eq, hflag, htop, ← topCleared]
  exact congrArg _ (if_congr zext_byte_eq_zero rfl rfl)

theorem softReset_greg (s : State) (g : GReg) : (softReset s).greg g = softResetValue g (s.greg g) := by
  rw [softReset_eq_topCleared, State.greg_setPc, zeroRegs_softResetBanks_greg, State.greg_congr (topCleared_only s).regs]

theorem softReset_cpsr (s : State) : (softReset s).cpsr = resetCpsr := by
  rw [softReset_eq_topCleared, State.setPc_cpsr, (zeroRegs_sameStatus _ _).cpsr, softResetBanks_cpsr]

theorem softReset_spsrOf (s : State) (e : Exc) :
    (softReset s).spsrOf e = if e = .svc ∨ e = .irq then resetSpsr else s.spsrOf e := by
  rw [softReset_eq_topCleared, State.spsrOf_setPc, State.spsrOf_congr (zeroRegs_sameStatus _ _).spsr]
  split
  case isTrue he => exact softResetBanks_resetSpsr _ he
  case isFalse he =>
    obtain ⟨hsvc, hirq⟩ := not_or.mp he
    rw [softResetBanks_spsrOf _ hsvc hirq, State.spsrOf_congr (topCleared_only s).spsr]

theorem softReset_pc (s : State) :
    (softReset s).pc = if s.read8 0x03007FFA = 0 then 0x08000000 else 0x02000000 := by
  rw [softReset_eq_topCleared, State.setPc_pc]

theorem softReset_devices (s : State) :
    (softReset s).ic = { s.ic with shadow := 0 } ∧ (softReset s).ppu = s.ppu := by
  obtain ⟨⟨-, hic, hppu, -⟩, -⟩ := zeroRegs_softResetBanks_sameUnits userR0toR12 (topCleared s)
  rw [softReset_eq_topCleared, State.setPc_ic, State.setPc_ppu, hic, hppu]
  exact topCleared_devices s

theorem softReset_read8 (s : State) (a : Word) :
    (softReset s).read8 a = if regionOf a = .iwram ∧ 0x7E00 ≤ (a.extractLsb' 0 15).toNat then 0 else s.read8 a := by
  obtain ⟨⟨hmem, hic, hppu, hcart⟩, hparams⟩ := zeroRegs_softResetBanks_sameUnits userR0toR12 (topCleared s)
  rw [softReset_eq_topCleared, read8_setPc, State.read8_congr hmem hic hppu hcart hparams, topCleared_read8]

/-! ### RegisterRamReset (47 R811) -/

/-- The first `hi` offsets of a region are bytes of storage and of no register (20 R230). -/
structure PlainBelow (r : Region) (hi : Nat) : Prop where
  size : hi ≤ r.size
  region : r ∉ [Region.bios, .unmapped, .cartridge]
  noDevice : ∀ off, off < hi → deviceAt r (off / 2) = none

theorem PlainBelow.internal {r : Region} {hi : Nat} (h : PlainBelow r hi) : r ≠ .cartridge := by
  rintro rfl
  exact h.region (by decide)

theorem read8_ram {s : State} {a : Word} {key : Nat} (h : s.place a = .ram key) : s.read8 a = Memory.get s.mem key := by
  unfold State.read8
  rw [h]

/-- The keys of those bytes are in a row, and no other region has one among them. -/
theorem PlainBelow.key_iff {r : Region} {hi : Nat} (h : PlainBelow r hi) {s : State} {a : Word} {key : Nat}
    (hp : s.place a = .ram key) : (r.base + 0 ≤ key ∧ key < r.base + hi) ↔ regionOf a = r ∧ offsetOf a < hi := by
  have hsize := h.size
  obtain ⟨rfl, -, -⟩ | ⟨rfl, hr⟩ := key_of_place_ram hp
  · constructor
    · rintro ⟨hlo, hhi⟩
      obtain rfl : regionOf a = r := region_eq_of_key_eq (off' := (regionOf a).base + offsetOf a - r.base) (offsetOf_lt a)
        (by omega) (by omega)
      exact ⟨rfl, by omega⟩
    · rintro ⟨rfl, hoff⟩
      omega
  · have hne : regionOf a ≠ r := fun e => h.internal (e.symm.trans hr)
    have hend := region_end_le h.internal
    have hsram : Region.cartridge.base ≤ sramBase := by decide
    constructor
    · omega
    · exact fun e => absurd e.1 hne

@[simp] theorem place_setMem (s : State) (m : List Host.Cell) (a : Word) : (s.setMem m).place a = s.place a := rfl

theorem setMem_clear_read8 {r : Region} {hi : Nat} (h : PlainBelow r hi) (s : State) (a : Word) :
    (s.setMem (Sparse.clear s.mem (r.base + 0) (r.base + hi))).read8 a =
      if regionOf a = r ∧ offsetOf a < hi then 0 else s.read8 a := by
  have hplace := place_setMem s (Sparse.clear s.mem (r.base + 0) (r.base + hi)) a
  have hstored {key : Nat} (hp : s.place a = .ram key) :
      (s.setMem (Sparse.clear s.mem (r.base + 0) (r.base + hi))).read8 a =
        if regionOf a = r ∧ offsetOf a < hi then 0 else s.read8 a := by
    rw [read8_ram (hplace.trans hp), read8_ram hp]
    exact (Sparse.get_clear _ _ _ _ _).trans (if_congr (h.key_iff hp) rfl rfl)
  cases located s a with
  | storage hp | sram hp => exact hstored hp
  | device d lane1 hp =>
    have hnot : ¬(regionOf a = r ∧ offsetOf a < hi) := by
      rintro ⟨rfl, hoff⟩
      cases (h.noDevice _ hoff).symm.trans (placeOf_dev hp).1
    rw [if_neg hnot, read8_dev (hplace.trans hp), read8_dev hp]
    rfl
  | rom hp hr =>
    have hend := region_end_le h.internal
    have hsize := h.size
    have hnot : ¬(regionOf a = r ∧ offsetOf a < hi) := fun e => h.internal (e.1.symm.trans hr)
    rw [if_neg hnot]
    unfold State.read8 State.romByte
    rw [hplace, hp]
    refine if_congr Iff.rfl ?_ rfl
    exact (Sparse.get_clear _ _ _ _ _).trans (if_neg (by omega))
  | bios hp hr | unmapped hp hr | void hp hr | external hp hr =>
    have hnot : ¬(regionOf a = r ∧ offsetOf a < hi) := fun e => h.region (by rw [← e.1, hr]; decide)
    simp [State.read8, State.unmappedValue, hp, hnot]

theorem clearIf_read8 {r : Region} {hi : Nat} (h : PlainBelow r hi) (b : Bool) (s : State) (a : Word) :
    (clearIf b r 0 hi s).read8 a = if b = true ∧ regionOf a = r ∧ offsetOf a < hi then 0 else s.read8 a := by
  cases b with
  | false => rw [if_neg fun hb => Bool.false_ne_true hb.1]; rfl
  | true =>
    simp only [clearIf, if_true, true_and]
    exact setMem_clear_read8 h s a

theorem registerRamReset_read8 (s : State) (a : Word) :
    (registerRamReset s).read8 a =
      if (s.arg 0).getLsbD 4 = true ∧ regionOf a = .oam ∧ offsetOf a < Region.oam.size then 0
      else if (s.arg 0).getLsbD 3 = true ∧ regionOf a = .vram ∧ offsetOf a < Region.vram.size then 0
      else if (s.arg 0).getLsbD 2 = true ∧ regionOf a = .palette ∧ offsetOf a < Region.palette.size then 0
      else if (s.arg 0).getLsbD 1 = true ∧ regionOf a = .iwram ∧ offsetOf a < 0x7E00 then 0
      else if (s.arg 0).getLsbD 0 = true ∧ regionOf a = .ewram ∧ offsetOf a < Region.ewram.size then 0
      else s.read8 a := by
  have hoam : PlainBelow .oam Region.oam.size := ⟨le_rfl, by decide, fun _ _ => rfl⟩
  have hvram : PlainBelow .vram Region.vram.size := ⟨le_rfl, by decide, fun _ _ => rfl⟩
  have hpalette : PlainBelow .palette Region.palette.size := ⟨le_rfl, by decide, fun _ _ => rfl⟩
  have hiwram : PlainBelow .iwram 0x7E00 := ⟨by decide, by decide, fun _ _ => if_neg (by omega)⟩
  have hewram : PlainBelow .ewram Region.ewram.size := ⟨le_rfl, by decide, fun _ _ => rfl⟩
  rw [registerRamReset, clearIf_read8 hoam, clearIf_read8 hvram, clearIf_read8 hpalette, clearIf_read8 hiwram,
    clearIf_read8 hewram]

theorem registerRamReset_devices (s : State) :
    (registerRamReset s).ic = s.ic ∧ (registerRamReset s).ppu = s.ppu := by
  have hclear (b : Bool) (r : Region) (lo hi : Nat) (u : State) :
      (clearIf b r lo hi u).ic = u.ic ∧ (clearIf b r lo hi u).ppu = u.ppu := by cases b <;> exact ⟨rfl, rfl⟩
  simp [registerRamReset, hclear]

theorem softReset_keeps_bank (s : State) {b : Bank} (hb : b ∈ [Bank.fiq, .abt, .und]) :
    (softReset s).greg (.sp b) = s.greg (.sp b) ∧ (softReset s).greg (.lr b) = s.greg (.lr b) := by
  simp only [List.mem_cons, List.not_mem_nil, or_false] at hb
  obtain rfl | rfl | rfl := hb <;> exact ⟨softReset_greg s _, softReset_greg s _⟩

theorem softReset_keeps_spsrOf (s : State) {e : Exc} (he : e ∈ [Exc.fiq, .abt, .und]) : (softReset s).spsrOf e = s.spsrOf e := by
  refine (softReset_spsrOf s e).trans (if_neg ?_)
  rintro (rfl | rfl) <;> exact absurd he (by decide)

/-- Settles O42: what each call leaves in every register, device and byte of memory. -/
theorem resetCalls : Obligations.ResetCalls := by
  intro i len s hhle
  refine ⟨fun h => ?_, fun h => ?_⟩
  · have hexec : exec i s = .next (softReset s) := (exec_call hhle h).trans (congrArg _ (if_pos rfl))
    have hgreg := softReset_greg s
    obtain ⟨hic, hppu⟩ := softReset_devices s
    have hcpsr : (softReset s).cpsr.toWord = 0x0000001F := by rw [softReset_cpsr]; rfl
    have hspsr (e : Exc) (he : e = .svc ∨ e = .irq) : ((softReset s).spsrOf e).toWord = 0 := by
      rw [softReset_spsrOf, if_pos he]; rfl
    refine ⟨_, hexec, hgreg _, hgreg _, hspsr _ (.inl rfl), hgreg _, hgreg _, hspsr _ (.inr rfl), hcpsr, hgreg _, hgreg _,
      fun _ => hgreg _, fun _ => hgreg _, fun _ => hgreg _, fun b hb => softReset_keeps_bank s hb,
      fun e he => softReset_keeps_spsrOf s he, softReset_pc s, fun a ha => ?_, fun a ha => ?_, by rw [hic], by rw [hic], by rw [hic],
      by rw [hic], hppu⟩
    · simp only [softReset_read8, ha, true_and]
    · simp only [softReset_read8, ha, false_and, if_false]
  · have hexec := exec_routine hhle h (by decide) (t := registerRamReset s) rfl
    obtain ⟨hic, hppu⟩ := registerRamReset_devices s
    have hu := OnlyUnits.registerRamReset s
    have hend {a : Word} {r : Region} (ha : regionOf a = r) : offsetOf a < r.size := ha ▸ offsetOf_lt a
    refine ⟨_, hexec, fun a ha => ?_, fun a ha => ?_, fun a ha => ?_, fun a ha => ?_, fun a ha => ?_, fun a ha => ?_,
      hu.regs, hu.cpsr, hu.spsr, hic, hppu, congrArg (· + len) hu.pc⟩
    · simp [registerRamReset_read8, ha, hend ha]
    · simp [registerRamReset_read8, ha, offsetOf_of_iwram ha]
    · simp [registerRamReset_read8, ha, hend ha]
    · simp [registerRamReset_read8, ha, hend ha]
    · simp [registerRamReset_read8, ha, hend ha]
    · simp only [List.mem_cons, List.not_mem_nil, or_false] at ha
      obtain ha | ha | ha | ha := ha <;> simp [registerRamReset_read8, ha]

end Sys2Proof.Claims
end

section
/-! The step's tests in their order: a waiting CPU, a wake, the IRQ entry and an instruction (60 R900 to R904, R920, R940 to R944), and
what every step keeps of the picture processor and the wait state. -/

namespace Sys2Proof.Claims

open Sys2Proof.Machine

/-! ### The order of the tests (60 R900, R901) -/

theorem wakeStop_of_running {s : State} (h : s.stopped = false) : wakeStop s = some s := by simp [wakeStop, h]

theorem wakeHalt_of_running {s : State} (h : s.halted = false) : wakeHalt s = some s := by simp [wakeHalt, h]

theorem wakeStop_of_wakes {s : State} (h : s.stopped = true)
    (hw : s.params.stopWakeMask &&& s.ic.ie.setWidth 16 &&& s.ic.iff.setWidth 16 ≠ 0) : wakeStop s = some s.unstopped := by
  have hwakes : stopWakes s = true := decide_eq_true hw
  rw [wakeStop, if_pos h, if_pos hwakes]

section
variable {s : State} (hf : s.faulted = false)
include hf

theorem cpuStep_of_wakeStop_none (h : wakeStop s = none) : cpuStep s = .next (s, haltCyc s) := by simp [cpuStep, hf, h]

theorem cpuStep_of_wakeStop {u : State} (hu : u.faulted = false) (h : wakeStop s = some u) (h' : wakeStop u = some u) :
    cpuStep s = cpuStep u := by simp [cpuStep, hf, hu, h, h']

variable (hs : s.stopped = false)
include hs

theorem cpuStep_of_wakeHalt_none (h : wakeHalt s = none) : cpuStep s = .next (s, haltCyc s) := by
  simp [cpuStep, hf, wakeStop_of_running hs, h]

theorem cpuStep_of_wakeHalt {u : State} (h : wakeHalt s = some u) : cpuStep s = awakeStep u := by
  simp [cpuStep, hf, wakeStop_of_running hs, h]

/-- A wake falls through: the step is that of the CPU that has woken. -/
theorem cpuStep_wakes {u : State} (hfu : u.faulted = false) (hsu : u.stopped = false) (hhu : u.halted = false)
    (h : wakeHalt s = some u) : cpuStep s = cpuStep u :=
  (cpuStep_of_wakeHalt hf hs h).trans (cpuStep_of_wakeHalt hfu hsu (wakeHalt_of_running hhu)).symm

end

/-- Settles O10: by the test of the wait the CPU is in. -/
theorem waitingCpuStaysOrWakes : Obligations.WaitingCpuStaysOrWakes := by
  intro s
  refine ⟨fun hf => ?faulted, fun hf hs hz => ?stopped, fun hf hs hw => ?unstops, fun hf hs hh hk hn => ?halted,
    fun hf hs hh hk hm hw => ?unhalts, fun hf hs hh hk hz => ?intrWait, fun hf hs hh hk hw => ?intrWakes⟩
  case faulted => simp [step, cpuStep, hf]
  case stopped => exact cpuStep_of_wakeStop_none hf ((wakeStop_eq_none_iff s).mpr ⟨hs, hz⟩)
  case unstops => exact cpuStep_of_wakeStop hf hf (wakeStop_of_wakes hs hw) (wakeStop_of_running rfl)
  case halted => exact cpuStep_of_wakeHalt_none hf hs ((wakeHalt_eq_none_iff s).mpr (.inl ⟨hh, hk, hn⟩))
  case intrWait => exact cpuStep_of_wakeHalt_none hf hs ((wakeHalt_eq_none_iff s).mpr (.inr (.inl ⟨hh, hk, hz⟩)))
  case unhalts =>
    refine cpuStep_wakes hf hs hf hs rfl ?_
    simp only [wakeHalt, hh, hk, (pendingInterrupt_isSome_iff s).mpr ⟨hm, hw⟩, if_true]
    rfl
  case intrWakes =>
    refine cpuStep_wakes hf hs hf hs rfl ?_
    have hwakes : intrWaitWakes s = true := decide_eq_true hw
    simp only [wakeHalt, hh, hk, hwakes, if_true]
    rfl

/-! ### The IRQ entry (60 R912, R920) -/

theorem pendingInterrupt_of_bit {s : State} {b : Fin 14} (hm : s.ic.ime = true) (he : s.ic.ie.getLsbD b = true)
    (hi : s.ic.iff.getLsbD b = true) : s.pendingInterrupt.isSome = true :=
  (pendingInterrupt_isSome_iff s).mpr
    ⟨hm, (ne_zero_iff_getLsbD _).mpr ⟨b, b.isLt, by rw [BitVec.getLsbD_and, he, hi]; rfl⟩⟩

/-- Settles O11: a CPU that is awake enters the exception, whose frame the entry's updates show. -/
theorem pendingIrqIsTaken : Obligations.PendingIrqIsTaken := by
  intro s b hf hs hh hm he hi hc
  have hstep : cpuStep s = .next (s.irqEntry, irqCyc s) := by
    rw [cpuStep_of_wakeHalt hf hs (wakeHalt_of_running hh), awakeStep, pendingInterrupt_of_bit hm he hi, hc]
    rfl
  have hgreg (g : GReg) : s.irqEntry.greg g = if g = .lr .irq then s.pc + 4 else s.greg g := State.greg_setGreg _ _ _ _
  have hspsr (e : Exc) : s.irqEntry.spsrOf e = if e = .irq then s.cpsr.toPsr else s.spsrOf e := State.spsrOf_setSpsr _ _ _ _
  exact ⟨_, hstep, (hspsr _).trans (if_pos rfl), fun e h => (hspsr e).trans (if_neg h), rfl, (hgreg _).trans (if_pos rfl),
    fun g h => (hgreg g).trans (if_neg h), rfl, ⟨rfl, rfl, rfl, rfl⟩, ⟨rfl, rfl, rfl, rfl, rfl, rfl, rfl⟩,
    ⟨rfl, rfl, rfl, rfl⟩, rfl⟩

/-! ### An instruction (60 R904) -/

/-- Settles O8: a CPU that is awake, with no IRQ to take, runs the instruction. -/
theorem stepRunsTheDecodedInstruction : Obligations.StepRunsTheDecodedInstruction := by
  intro s i hf hs hh hirq hd
  have hnone : ¬(s.pendingInterrupt.isSome && !s.cpsr.i) = true := by
    obtain h | h := hirq <;> simp [h]
  have hstep : cpuStep s = instrStep s := by
    rw [cpuStep_of_wakeHalt hf hs (wakeHalt_of_running hh), awakeStep, if_neg hnone]
  have hrun : runCode (fetch s) s = runInstr i s := by rw [runCode, hd]
  rw [step, hstep, instrStep, hrun, runInstr]
  cases exec i s <;> rfl

/-! ### What every step keeps (10 R121, R147) -/

/-- The CPU's step wakes the CPU or leaves it, and then does no more than an instruction and the count of it. -/
theorem cpuStep_keeps {s : State} {r : State × Nat} (h : cpuStep s = .next r) :
    ∃ u t, Woken s u ∧ Keeps u t ∧ (r.1 = t ∨ r.1 = t.counted) := by
  cases cpuStep_cases h with
  | waits u w eq => exact ⟨u, u, w, .refl u, .inl (by rw [eq])⟩
  | enters u w _ _ eq => exact ⟨u, u.irqEntry, w, (Keeps.refl u).takeException _ _ _, .inl (by rw [eq])⟩
  | runs u t i w _ ran eq => exact ⟨u, t, w, exec_keeps i u t ran, .inr (by rw [eq])⟩
  | unmatched u t w fetched ran eq =>
    have hrun : runCode (fetch u) u = .next (t, r.2) := by rw [runCode, fetched]; exact ran
    exact ⟨u, t, w, (runCode_keeps hrun).1, .inr eq⟩

theorem countersOk_of_keeps {s t : State} (k : Keeps s t) (h : s.ppu.countersOk = true) : t.ppu.countersOk = true := by
  rw [Ppu.countersOk_iff] at h ⊢
  rwa [k.line, k.lineCycle, k.vblank, k.hblank, k.hblankDone]

theorem cpuStep_ppuAndWait {s : State} {r : State × Nat} (h : cpuStep s = .next r) (hc : s.ppu.countersOk = true)
    (hw : s.waitOk = true) : r.1.ppu.countersOk = true ∧ r.1.ppu.fb = s.ppu.fb ∧ r.1.waitOk = true := by
  obtain ⟨u, t, w, k, hr⟩ := cpuStep_keeps h
  have hppu : u.ppu = s.ppu := by rw [w.same]
  have ht : t.ppu.countersOk = true ∧ t.ppu.fb = s.ppu.fb ∧ t.waitOk = true :=
    ⟨countersOk_of_keeps k (by rwa [hppu]), by rw [k.fb, hppu], k.wait (w.wait hw)⟩
  obtain hr | hr := hr <;> rw [hr] <;> exact ht

/-- Settles O17: the CPU's step keeps each, and so do the ticks and requests that follow it. -/
theorem stepKeepsPpuAndWaitSound : Obligations.StepKeepsPpuAndWaitSound := by
  intro s t hc hfb hw h
  obtain ⟨r, hr, rfl⟩ := step_next h
  obtain ⟨hc', hfb', hw'⟩ := cpuStep_ppuAndWait hr hc hw
  obtain ⟨hafterC, hafterF⟩ := afterStep_ppu r.2 hc' (by rwa [hfb'])
  have ha := afterStep_aside r.2 r.1
  refine ⟨hafterC, hafterF, ?_⟩
  rw [State.waitOk, ha.halted, ha.waitKind]
  exact hw'

end Sys2Proof.Claims
end

section
/-! User mode is left by SWI alone (60 R950, R952). -/

namespace Sys2Proof.Claims

open Sys2Proof.Machine

/-- Only the S bit with Rd = 15 lets a data-processing instruction change any bit (40 R412). -/
theorem restores_of_dpStatus {op : DpOp} {f : DpForm} {sf : Bool} {rd : Reg} (h : dpStatus op f sf rd = .any) :
    restores op sf rd = true ∧ ∀ rs sh rm, f ≠ .rsr rs sh rm := by
  have hflags : flagBits op ≠ .any := by unfold flagBits; split <;> exact nofun
  unfold dpStatus at h
  unfold restores
  split at h
  case isFalse => exact absurd h hflags
  case isTrue hw =>
    split at h
    case isFalse => cases h
    case isTrue hsf =>
      split at h
      case h_1 => exact absurd h hflags
      case h_2 hrsr =>
        split at h
        case isFalse => exact absurd h hflags
        case isTrue h15 => exact ⟨by simp [hw, hsf, h15], hrsr⟩

theorem statusBits_of_isRestore {i : Instr} (h : isRestore i = true) : statusBits i = .any := by
  unfold isRestore at h
  split at h
  case h_1 | h_4 => exact of_decide_eq_true h
  case h_2 | h_3 => cases h

/-- User mode has no SPSR to restore from: what restores the status there stops (10 R116). -/
theorem noSpsrRestore_mem_tags {i : Instr} {s : State} (hi : isRestore i = true) (hm : s.cpsr.mode = .usr) :
    .noSpsrRestore ∈ tags i s := by
  have hrestore : .noSpsrRestore ∈ restoreTags true s := by simp [restoreTags, hm, noSpsrMode]
  cases hdp : asDp i with
  | some q =>
    obtain ⟨op, f, c, sf, rn, rd⟩ := q
    obtain rfl := eq_dpInstr_of_asDp hdp
    rw [tags_dpInstr]
    have hany := statusBits_of_isRestore hi
    rw [statusBits_dpInstr] at hany
    obtain ⟨hr, hrsr⟩ := restores_of_dpStatus hany
    cases f with
    | imm | rsi => rwa [dpTags, hr]
    | rsr rs sh rm => exact absurd rfl (hrsr rs sh rm)
  | none =>
    cases i with
    | ldm c p u sb w rn list =>
      have hany := statusBits_of_isRestore hi
      by_cases hsb : (sb && list.getLsbD 15) = true
      · exact List.mem_append_right _ (by rwa [hsb])
      · rw [statusBits, if_neg hsb] at hany
        cases hany
    | mul _ sf | mla _ sf | umull _ sf | umlal _ sf | smull _ sf | smlal _ sf => cases sf <;> cases hi
    | _ => nomatch hi, hdp

theorem isRestore_not_completes {i : Instr} {s t : State} (hi : isRestore i = true) (hm : s.cpsr.mode = .usr)
    (hp : passes i s = true) : exec i s ≠ .next t := by
  intro h
  obtain ⟨f, -, hfault⟩ := (faultsExactlyWhereUnpredictable i s hp).2 (List.ne_nil_of_mem (noSpsrRestore_mem_tags hi hm))
  rw [h] at hfault
  cases hfault

/-- The bits of the status that no User-mode program can change (60 R950). -/
def SameControl (s t : State) : Prop := t.cpsr.mode = s.cpsr.mode ∧ t.cpsr.i = s.cpsr.i ∧ t.cpsr.f = s.cpsr.f

theorem sameControl_of_statusKept {b : StatusBits} {s t : State} (hb : b ≠ .any) (h : StatusKept b s t) :
    SameControl s t := by
  cases b with
  | any => exact absurd rfl hb
  | _ => rw [SameControl, h]; exact ⟨rfl, rfl, rfl⟩

/-- MSR ignores the control byte in User mode (40 R432). -/
theorem exec_msr_sameControl {i : Instr} {s : State} (hm : s.cpsr.mode = .usr)
    (hi : (∃ c mask rm, i = .msrReg c false mask rm) ∨ (∃ c mask rot imm8, i = .msrImm c false mask rot imm8)) :
    Ends (SameControl s) (exec i s) := by
  have hmsr (mask : BitVec 4) (v : Word) : Ends (SameControl s) (msr false mask v s) := by
    rw [msr, if_neg Bool.false_ne_true, msrCpsr_flagsOnly (.inr hm)]
    exact Ends.next ⟨rfl, rfl, rfl⟩
  have hfails : SameControl s (s.advancePc 4) := ⟨rfl, rfl, rfl⟩
  obtain ⟨c, mask, rm, rfl⟩ | ⟨c, mask, rot, imm8, rfl⟩ := hi
  · exact Ends.ite (fun _ => Ends.ite (fun _ => Ends.fault) fun _ => hmsr mask _) fun _ => Ends.next hfails
  · exact Ends.ite (fun _ => hmsr mask _) fun _ => Ends.next hfails

/-- An instruction whose condition fails changes nothing but the PC; a restore whose condition passes stops. -/
theorem exec_isRestore_sameControl {i : Instr} {s : State} (hm : s.cpsr.mode = .usr) (hi : isRestore i = true) :
    Ends (SameControl s) (exec i s) := by
  intro t h
  cases hp : passes i s with
  | true => exact absurd h (isRestore_not_completes hi hm hp)
  | false =>
    cases hc : condOf i with
    | none => rw [passes, hc] at hp; cases hp
    | some c =>
      rw [passes, hc] at hp
      rw [(failedConditionOnlyAdvancesPc i s c hc hp).1] at h
      cases h
      exact ⟨rfl, rfl, rfl⟩

theorem spsr_ext {s t : State} (h : ∀ e, t.spsrOf e = s.spsrOf e) : t.spsr = s.spsr := by
  have hidx : ∀ k : Fin 5, ∃ e : Exc, e.idx = k
    | 0 => ⟨.fiq, rfl⟩ | 1 => ⟨.irq, rfl⟩ | 2 => ⟨.svc, rfl⟩ | 3 => ⟨.abt, rfl⟩ | 4 => ⟨.und, rfl⟩
  refine Vector.ext fun k hk => ?_
  obtain ⟨e, he⟩ := hidx ⟨k, hk⟩
  have hk := h e
  simp only [State.spsrOf, he] at hk
  exact hk

/-- Settles O18: by the status bits that the instruction may change, where only MSR and a restore could reach the control bits. -/
theorem userModeIsLeftOnlyBySwi : Obligations.UserModeIsLeftOnlyBySwi := by
  intro i s t hm hcall h
  have heffect := exec_effect i s hcall t h
  have hspsr : t.spsr = s.spsr := spsr_ext fun e => heffect.spsr e (by simp [hm, Mode.exc?])
  have hcontrol : SameControl s t := by
    by_cases hb : statusBits i = .any
    · obtain hr | hmsr := isRestore_of_statusBits hb
      · exact exec_isRestore_sameControl hm hr t h
      · exact exec_msr_sameControl hm hmsr t h
    · exact sameControl_of_statusKept hb heffect.status
  obtain ⟨hmode, hi, hf⟩ := hcontrol
  exact ⟨hmode.trans hm, hi, hf, hspsr⟩

end Sys2Proof.Claims
end

section
/-! A rendered line: the front-most opaque layer at each pixel, and the sprite that stands for the sprite layer (61 R1010, R1056 to R1070). -/

namespace Sys2Proof.Claims

open Sys2Proof.Machine

/-! ### Colours and rows (61 R1010, R1070) -/

theorem toNat_channel (c : BitVec 15) (k : Nat) : (c.extractLsb' k 5 ++ 0b000#3).toNat = c.toNat / 2 ^ k % 32 * 8 := by
  rw [BitVec.toNat_append, BitVec.extractLsb'_toNat, Nat.shiftRight_eq_div_pow, Nat.shiftLeft_eq]
  exact Nat.or_zero _

theorem toRGBA_toNat (c : BitVec 15) :
    (toRGBA c).toNat = c.toNat % 32 * 8 + c.toNat / 32 % 32 * 8 * 2 ^ 8 + c.toNat / 1024 * 8 * 2 ^ 16 + 0xFF * 2 ^ 24 := by
  have hc := c.isLt
  have hff : (0xFF#8).toNat = 255 := rfl
  rw [toRGBA, toNat_append_byte, toNat_append_byte, toNat_append_byte, toNat_channel, toNat_channel, toNat_channel, hff]
  omega

theorem pixel_renderLine (s : State) (y x y' : Nat) (hx : x < 240) :
    Frame.pixel (renderLine y s).ppu.fb x y' =
      if y' = y then toRGBA (compose s s.bgMode x y) else Frame.pixel s.ppu.fb x y' := by
  rw [renderLine_ppu, Frame.pixel, Frame.row, Frame.setRow, Sparse.get_set]
  split
  · have hw : x < lineWidth := hx
    simp [renderedRow, hw]
  · rfl

/-! ### The front-most layer (61 R1060 to R1063) -/

/-- In a rising list, the first element where a function answers. -/
theorem findSome?_of_first {α β : Type} [LinearOrder α] {f : α → Option β} {b : β} {a : α} {l : List α}
    (hl : l.Pairwise (· < ·)) (ha : a ∈ l) (hb : f a = some b) (hn : ∀ a', a' < a → f a' = none) :
    l.findSome? f = some b := by
  induction l with
  | nil => cases ha
  | cons x rest ih =>
    obtain ⟨hx, hrest⟩ := List.pairwise_cons.mp hl
    obtain rfl | ha := List.mem_cons.mp ha
    · rw [List.findSome?_cons, hb]
    · rw [List.findSome?_cons, hn x (hx a ha)]
      exact ih hrest ha

section
variable (s : State) (mode x y : Nat)

/-- What background `n` shows at priority `p`. -/
def bgAt (p : Nat) (n : Fin 4) : Option (BitVec 15) :=
  if (backgroundLayer s n).priority = p then (bgPixel s mode n x y).colour? s else none

theorem bgColour_eq (p : Nat) (ns : List (Fin 4)) : bgColour s mode p x y ns = ns.findSome? (bgAt s mode x y p) := by
  induction ns with
  | nil => rfl
  | cons n rest ih =>
    rw [bgColour, List.findSome?_cons, ih]
    unfold bgAt
    split
    · cases (bgPixel s mode n x y).colour? s <;> rfl
    · rfl

theorem firstColour_eq (obj : Option (Nat × Pixel)) (ps : List Nat) :
    firstColour s mode x y obj ps = (ps.findSome? (layerColour s mode x y obj)).getD (pal s 0) := by
  induction ps with
  | nil => rfl
  | cons p rest ih =>
    rw [firstColour, List.findSome?_cons, ih]
    cases layerColour s mode x y obj p <;> rfl

variable {s mode x y}

theorem layerColour_of_ne {obj : Option (Nat × Pixel)} {p : Nat} (h : ∀ o, obj = some o → o.1 ≠ p) :
    layerColour s mode x y obj p = bgColour s mode p x y [0, 1, 2, 3] := by
  unfold layerColour
  split
  · next o => exact if_neg (h o rfl)
  · rfl

theorem layerColour_of_sprite (o : Nat × Pixel) : layerColour s mode x y (some o) o.1 = o.2.colour? s := if_pos rfl

/-- No background of priority `p` is opaque. -/
theorem bgColour_eq_none {p : Nat}
    (h : ∀ m, ((bgPixel s mode m x y).colour? s).isSome = true → (backgroundLayer s m).priority ≠ p) :
    bgColour s mode p x y [0, 1, 2, 3] = none := by
  rw [bgColour_eq, List.findSome?_eq_none_iff]
  intro m _
  refine ite_eq_right_iff.mpr fun hp => ?_
  by_contra hne
  exact h m (Option.isSome_iff_ne_none.mpr hne) hp

/-- The first priority at which a layer shows a colour gives the pixel. -/
theorem compose_of_first {p : Nat} {c : BitVec 15} (hmode : mode < 6) (hp : p < 4)
    (hc : layerColour s mode x y (objPixel s mode x y) p = some c)
    (hn : ∀ q, q < p → layerColour s mode x y (objPixel s mode x y) q = none) : compose s mode x y = c := by
  have hps : [0, 1, 2, 3].Pairwise (· < ·) := by decide
  have hmem : p ∈ [0, 1, 2, 3] := by simp; omega
  rw [compose, if_neg (by omega), firstColour_eq, findSome?_of_first hps hmem hc hn]
  rfl

theorem priority_lt (s : State) (n : Fin 4) : (backgroundLayer s n).priority < 4 := BitVec.isLt _

/-- A background that is opaque, before every other opaque one and every sprite. -/
theorem compose_of_background {n : Fin 4} {c : BitVec 15} (hmode : mode < 6)
    (hc : (bgPixel s mode n x y).colour? s = some c)
    (hbg : ∀ m, m ≠ n → ((bgPixel s mode m x y).colour? s).isSome = true →
      (backgroundLayer s n).priority < (backgroundLayer s m).priority ∨
        ((backgroundLayer s n).priority = (backgroundLayer s m).priority ∧ n < m))
    (hobj : ∀ o, objPixel s mode x y = some o → (backgroundLayer s n).priority < o.1) : compose s mode x y = c := by
  refine compose_of_first hmode (priority_lt s n) ?_ fun q hq => ?_
  · rw [layerColour_of_ne fun o ho => (hobj o ho).ne', bgColour_eq]
    have hns : ([0, 1, 2, 3] : List (Fin 4)).Pairwise (· < ·) := by decide
    have hmem : n ∈ ([0, 1, 2, 3] : List (Fin 4)) := (by decide : ∀ n : Fin 4, n ∈ [0, 1, 2, 3]) n
    refine findSome?_of_first hns hmem ((if_pos rfl).trans hc) fun m hm => ite_eq_right_iff.mpr fun hp => ?_
    by_contra hne
    obtain h | h := hbg m hm.ne (Option.isSome_iff_ne_none.mpr hne) <;> omega
  · rw [layerColour_of_ne fun o ho => (hq.trans (hobj o ho)).ne']
    refine bgColour_eq_none fun m hm => ?_
    by_cases hmn : m = n
    · rw [hmn]; exact hq.ne'
    · obtain h | h := hbg m hmn hm <;> omega

/-! ### The sprite layer (61 R1056) -/

theorem eq_some_of_better {a b : Option (Nat × Pixel)} {o : Nat × Pixel} (h : better a b = some o) :
    a = some o ∨ b = some o := by
  unfold better at h
  split at h
  case h_1 => exact .inr h
  case h_2 => exact .inl h
  case h_3 =>
    split at h
    · exact .inr h
    · exact .inl h

/-- A sprite that stands for the layer is a candidate. -/
theorem candidate_of_bestCandidate {k n : Nat} {o : Nat × Pixel} (h : bestCandidate s mode x y k n = some o) :
    ∃ j, k ≤ j ∧ j < k + n ∧ candidate s mode x y j = some o := by
  induction n generalizing k with
  | zero => cases h
  | succ n ih =>
    obtain hk | hrest := eq_some_of_better h
    · exact ⟨k, le_rfl, by omega, hk⟩
    · obtain ⟨j, hj, hjn, hc⟩ := ih hrest
      exact ⟨j, by omega, by omega, hc⟩

/-- The best candidate of a range stands for it. -/
theorem bestCandidate_of_best {a n k : Nat} {d : Nat × Pixel} (hak : a ≤ k) (hkn : k < a + n)
    (hd : candidate s mode x y k = some d)
    (hbest : ∀ j e, a ≤ j → j < a + n → j ≠ k → candidate s mode x y j = some e → d.1 < e.1 ∨ (d.1 = e.1 ∧ k < j)) :
    bestCandidate s mode x y a n = some d := by
  induction n generalizing a with
  | zero => omega
  | succ n ih =>
    rw [bestCandidate]
    obtain rfl | hlt := hak.eq_or_lt
    · rw [hd]
      cases hb : bestCandidate s mode x y (a + 1) n with
      | none => rfl
      | some e =>
        obtain ⟨j, hj, hjn, hc⟩ := candidate_of_bestCandidate hb
        have hde : ¬e.1 < d.1 := by
          obtain h | h := hbest j e (by omega) (by omega) (by omega) hc <;> omega
        exact if_neg hde
    · rw [ih hlt (by omega) fun j e hj hjn => hbest j e (by omega) (by omega)]
      cases ha : candidate s mode x y a with
      | none => rfl
      | some e =>
        have hde : d.1 < e.1 := by
          obtain h | h := hbest a e le_rfl (by omega) (by omega) ha <;> omega
        exact if_pos hde

theorem candidate_opaque {k : Nat} {o : Nat × Pixel} (h : candidate s mode x y k = some o) :
    o.1 < 4 ∧ (o.2.colour? s).isSome = true := by
  unfold candidate at h
  simp only [] at h
  split at h
  case isFalse => cases h
  case isTrue hc =>
    cases h
    refine ⟨BitVec.isLt _, ?_⟩
    have hne : spritePixel s (sprite s k) x y ≠ .transparent := by simp_all
    cases hp : spritePixel s (sprite s k) x y with
    | transparent => exact absurd hp hne
    | entry | colour => rfl

theorem objPixel_opaque {o : Nat × Pixel} (h : objPixel s mode x y = some o) :
    o.1 < 4 ∧ (o.2.colour? s).isSome = true := by
  unfold objPixel at h
  split at h
  case isFalse => cases h
  case isTrue =>
    obtain ⟨j, -, -, hc⟩ := candidate_of_bestCandidate h
    exact candidate_opaque hc

/-- A sprite shows before the backgrounds of its priority (61 R1061). -/
theorem compose_of_sprite {o : Nat × Pixel} (hmode : mode < 6) (ho : objPixel s mode x y = some o)
    (hbg : ∀ m, ((bgPixel s mode m x y).colour? s).isSome = true → o.1 ≤ (backgroundLayer s m).priority) :
    o.2.colour? s = some (compose s mode x y) := by
  obtain ⟨hp, hopaque⟩ := objPixel_opaque ho
  obtain ⟨c, hc⟩ := Option.isSome_iff_exists.mp hopaque
  rw [hc, compose_of_first hmode hp (c := c)]
  · rw [ho, layerColour_of_sprite, hc]
  · intro q hq
    rw [layerColour_of_ne fun o' ho' => by cases ho.symm.trans ho'; exact hq.ne']
    exact bgColour_eq_none fun m hm => (hq.trans_le (hbg m hm)).ne'

theorem compose_of_no_layer (hmode : mode < 6) (ho : objPixel s mode x y = none)
    (hbg : ∀ m, (bgPixel s mode m x y).colour? s = none) : compose s mode x y = pal s 0 := by
  have hnone : [0, 1, 2, 3].findSome? (layerColour s mode x y (objPixel s mode x y)) = none := by
    rw [List.findSome?_eq_none_iff]
    intro p _
    rw [layerColour_of_ne fun o ho' => by cases ho.symm.trans ho']
    exact bgColour_eq_none fun m hm => by rw [hbg m] at hm; cases hm
  rw [compose, if_neg (by omega), firstColour_eq, hnone]
  rfl

end

/-- Settles O60: the row that is written, and each layer that can be in front. -/
theorem renderedLineShowsFrontLayer : Obligations.RenderedLineShowsFrontLayer := by
  intro s y
  refine ⟨fun x y' => pixel_renderLine s y x y', toRGBA_toNat, fun x h => if_pos h, fun x n c => compose_of_background,
    fun x o => compose_of_sprite, fun x => compose_of_no_layer, fun x k d hk hobj hd hbest => ?_⟩
  rw [objPixel, if_pos hobj]
  exact bestCandidate_of_best (Nat.zero_le k) (by omega) hd fun j e _ hj => hbest j e (by omega)

end Sys2Proof.Claims
end

section
/-! The picture processor along its ticks: where `advance` leaves the counters, the flags, the interrupt bits and `frameReady`, each as
the cycles of the frame that were passed (61 R1000 to R1005; 60 R911). -/

namespace Sys2Proof.Claims

open Sys2Proof.Machine

/-! ### The position in the frame (61 R1000, R1001) -/

/-- The cycles since the start of the frame. -/
def framePos (p : Ppu) : Nat := p.line * 1232 + p.lineCycle

theorem advance_succ (k : Nat) (s : State) : advance (k + 1) s = tick (advance k s) := by
  induction k generalizing s with
  | zero => rfl
  | succ k ih => exact ih (tick s)

section
variable {s : State} (hc : s.ppu.countersOk = true)
include hc

theorem countersInRange : s.ppu.line < 228 ∧ s.ppu.lineCycle < 1232 := by
  obtain ⟨hl, hy, -⟩ := (Ppu.countersOk_iff _).mp hc
  exact ⟨hl, hy⟩

theorem advance_framePos (k : Nat) :
    (advance k s).ppu.countersOk = true ∧ framePos (advance k s).ppu = (framePos s.ppu + k) % 280896 := by
  induction k with
  | zero =>
    obtain ⟨hl, hy⟩ := countersInRange hc
    refine ⟨hc, ?_⟩
    rw [advance, framePos]
    omega
  | succ k ih =>
    obtain ⟨hck, hpos⟩ := ih
    obtain ⟨hck', hpos'⟩ := tick_counters hck
    rw [advance_succ]
    refine ⟨hck', hpos'.trans ?_⟩
    rw [framePos] at hpos
    omega

/-- The line and the cycle, from the position. -/
theorem advance_counters (k : Nat) :
    (advance k s).ppu.line = (framePos s.ppu + k) / 1232 % 228 ∧ (advance k s).ppu.lineCycle = (framePos s.ppu + k) % 1232 := by
  obtain ⟨hck, hpos⟩ := advance_framePos hc k
  obtain ⟨hl, hy⟩ := countersInRange hck
  rw [framePos] at hpos
  omega

theorem lineAfter_eq : lineAfter s = (s.ppu.line + 1) % 228 := by
  obtain ⟨hl, -⟩ := countersInRange hc
  have htotal : totalLines = 228 := rfl
  rw [lineAfter, htotal]
  split <;> omega

/-- The change to line `n` is one cycle of the frame. -/
theorem lineChange_iff (n : Nat) :
    s.ppu.lineCycle + 1 = lineCyc ∧ lineAfter s = n ↔ (framePos s.ppu + 1) % 280896 = n * 1232 := by
  obtain ⟨hl, hy⟩ := countersInRange hc
  have hcyc : lineCyc = 1232 := rfl
  rw [lineAfter_eq hc, hcyc, framePos]
  omega

theorem vblankChange_iff :
    s.ppu.lineCycle + 1 = lineCyc ∧ lineAfter s = visibleLines ↔ (framePos s.ppu + 1) % 280896 = 197120 :=
  lineChange_iff hc 160

theorem hblank_iff : s.ppu.lineCycle + 1 = hblankAt ↔ (framePos s.ppu + 1) % 1232 = 960 := by
  obtain ⟨-, hy⟩ := countersInRange hc
  have hat : hblankAt = 960 := rfl
  rw [hat, framePos]
  omega

end

theorem succ_mod_frame {n : Nat} (hn : n ∣ 280896) (p k : Nat) : ((p + k) % 280896 + 1) % n = (p + (k + 1)) % n := by
  rw [Nat.add_mod, Nat.mod_mod_of_dvd _ hn, ← Nat.add_mod, Nat.add_assoc]

/-! ### Cycles passed -/

theorem passes_zero (p n c : Nat) : ¬Passes p 0 n c := by
  rintro ⟨j, h1, h0, -⟩
  omega

theorem passes_succ (p k n c : Nat) : Passes p (k + 1) n c ↔ Passes p k n c ∨ (p + (k + 1)) % n = c := by
  constructor
  · rintro ⟨j, h1, hk, hj⟩
    obtain rfl | hlt := hk.eq_or_lt
    · exact .inr hj
    · exact .inl ⟨j, h1, by omega, hj⟩
  · rintro (⟨j, h1, hk, hj⟩ | h)
    · exact ⟨j, h1, by omega, hj⟩
    · exact ⟨k + 1, by omega, le_rfl, h⟩

/-- Within a frame's worth of cycles, the change to line 160 comes. -/
theorem passes_vblank (p : Nat) {k : Nat} (hk : 280896 ≤ k) : Passes p k 280896 197120 :=
  ⟨(197120 + 280896 - (p + 1) % 280896) % 280896 + 1, by omega, by omega, by omega⟩

/-! ### What DISPSTAT is set to (10 R142) -/

/-- The enables and the VCount setting, which no tick writes. -/
structure SameSettings (s t : State) : Prop where
  vblankIrq : t.ppu.dispstat.vblankIrq = s.ppu.dispstat.vblankIrq
  hblankIrq : t.ppu.dispstat.hblankIrq = s.ppu.dispstat.hblankIrq
  vcountIrq : t.ppu.dispstat.vcountIrq = s.ppu.dispstat.vcountIrq
  lyc : t.ppu.dispstat.lyc = s.ppu.dispstat.lyc

theorem advance_sameSettings (s : State) (k : Nat) : SameSettings s (advance k s) := by
  induction k with
  | zero => exact ⟨rfl, rfl, rfl, rfl⟩
  | succ k ih =>
    obtain ⟨hv, hh, hvc, hl, -, -⟩ := tick_dispstat (advance k s)
    rw [advance_succ]
    exact ⟨hv.trans ih.vblankIrq, hh.trans ih.hblankIrq, hvc.trans ih.vcountIrq, hl.trans ih.lyc⟩

/-! ### The requests (61 R1003, R1004; 60 R911) -/

theorem tickRequests_vblank (s : State) :
    tickRequests s 0 =
      (s.ppu.dispstat.vblankIrq && decide (s.ppu.lineCycle + 1 = lineCyc ∧ lineAfter s = visibleLines)) := by
  simp [tickRequests, Bool.and_comm, Bool.and_left_comm]

theorem tickRequests_hblank (s : State) :
    tickRequests s 1 = (s.ppu.dispstat.hblankIrq && decide (s.ppu.lineCycle + 1 = hblankAt)) := by
  simp [tickRequests, Bool.and_comm]

theorem tickRequests_vcount (s : State) :
    tickRequests s 2 =
      (s.ppu.dispstat.vcountIrq &&
        decide (s.ppu.lineCycle + 1 = lineCyc ∧ lineAfter s = s.ppu.dispstat.lyc.toNat)) := by
  simp [tickRequests, Bool.and_comm, Bool.and_left_comm]

theorem tickRequests_other (s : State) {b : Nat} (hb : 3 ≤ b) : tickRequests s b = false := by
  have h0 : b ≠ 0 := by omega
  have h1 : b ≠ 1 := by omega
  have h2 : b ≠ 2 := by omega
  simp [tickRequests, h0, h1, h2]

theorem bit_iff_of_raise {x y z en ie ime : Bool} {E C : Prop} [Decidable C]
    (hy : y = true ↔ x = true ∨ (en = true ∧ ie = true ∧ ime = true ∧ E))
    (hz : z = (y || ((en && decide C) && (ie && ime)))) :
    z = true ↔ x = true ∨ (en = true ∧ ie = true ∧ ime = true ∧ (E ∨ C)) := by
  rw [hz, Bool.or_eq_true, hy]
  simp only [Bool.and_eq_true, decide_eq_true_eq]
  tauto

/-- One more request of the bit, where `C` holds and DISPSTAT enables it. -/
theorem Requested.raise {s t u : State} {b : Nat} {enable : Bool} {E C : Prop} [Decidable C] (a : Aside s t)
    (h : Requested s t b enable E) (r : Raises t u b (enable && decide C)) : Requested s u b enable (E ∨ C) := by
  obtain ⟨hiff, hshadow⟩ := h
  have hi := r.iff
  have hs := r.shadow
  rw [a.ie, a.ime] at hi hs
  exact ⟨bit_iff_of_raise hiff hi, bit_iff_of_raise hshadow hs⟩

section
variable {s : State} (hc : s.ppu.countersOk = true)
include hc

/-- A bit that a tick requests, where enabled, at one cycle of a period is requested where that cycle was passed. -/
theorem advance_requested {b n c : Nat} {enable : Bool} (hn : n ∣ 280896)
    (h : ∀ t : State, t.ppu.countersOk = true → SameSettings s t →
      tickRequests t b = (enable && decide ((framePos t.ppu + 1) % n = c))) (k : Nat) :
    Requested s (advance k s) b enable (Passes (framePos s.ppu) k n c) := by
  induction k with
  | zero => simp [Requested, advance, passes_zero]
  | succ k ih =>
    obtain ⟨hck, hpos⟩ := advance_framePos hc k
    have hr := tick_raises (advance k s) b
    rw [h _ hck (advance_sameSettings s k), hpos, succ_mod_frame hn] at hr
    rw [advance_succ, passes_succ]
    exact ih.raise (advance_aside k s) hr

theorem advance_requests_vblank (k : Nat) :
    Requested s (advance k s) 0 s.ppu.dispstat.vblankIrq (Passes (framePos s.ppu) k 280896 197120) :=
  advance_requested hc (dvd_refl _) (fun t ht hset => by
    rw [tickRequests_vblank, hset.vblankIrq, decide_eq_decide.mpr (vblankChange_iff ht)]) k

theorem advance_requests_hblank (k : Nat) :
    Requested s (advance k s) 1 s.ppu.dispstat.hblankIrq (Passes (framePos s.ppu) k 1232 960) :=
  advance_requested hc (by decide) (fun t ht hset => by
    rw [tickRequests_hblank, hset.hblankIrq, decide_eq_decide.mpr (hblank_iff ht)]) k

theorem advance_requests_vcount (k : Nat) :
    Requested s (advance k s) 2 s.ppu.dispstat.vcountIrq
      (Passes (framePos s.ppu) k 280896 (s.ppu.dispstat.lyc.toNat * 1232)) :=
  advance_requested hc (dvd_refl _) (fun t ht hset => by
    rw [tickRequests_vcount, hset.vcountIrq, hset.lyc, decide_eq_decide.mpr (lineChange_iff ht _)]) k

/-- No tick requests another bit. -/
theorem advance_keeps_bit {b : Nat} (hb : 3 ≤ b) (k : Nat) :
    (advance k s).ic.iff.getLsbD b = s.ic.iff.getLsbD b ∧ (advance k s).ic.shadow.getLsbD b = s.ic.shadow.getLsbD b := by
  have hreq := advance_requested hc (b := b) (n := 1) (c := 0) (enable := false) (one_dvd _)
    (fun t _ _ => tickRequests_other t hb) k
  simpa [Requested, Bool.coe_iff_coe] using hreq

/-! ### The flags (61 R1003, R1004, R1071) -/

/-- The VCount flag is that of the last line change. -/
theorem advance_vmatch (k : Nat) :
    (advance k s).ppu.dispstat.vmatch =
      if s.ppu.lineCycle + k < 1232 then s.ppu.dispstat.vmatch
      else decide ((advance k s).ppu.line = s.ppu.dispstat.lyc.toNat) := by
  obtain ⟨-, hy⟩ := countersInRange hc
  induction k with
  | zero => rw [if_pos (by omega)]; rfl
  | succ k ih =>
    obtain ⟨hck, -⟩ := advance_framePos hc k
    obtain ⟨hl, hy'⟩ := advance_counters hc k
    obtain ⟨hl', -⟩ := advance_counters hc (k + 1)
    obtain ⟨-, -, -, -, hvmatch, -⟩ := tick_dispstat (advance k s)
    have hcyc : lineCyc = 1232 := rfl
    rw [advance_succ, hvmatch, (advance_sameSettings s k).lyc, ih, hcyc, ← advance_succ]
    rw [framePos] at hl hy' hl'
    split
    case isTrue hchange =>
      rw [if_neg (by omega), lineAfter_eq hck, show (advance (k + 1) s).ppu.line = ((advance k s).ppu.line + 1) % 228 by omega]
    case isFalse hsame =>
      by_cases hfirst : s.ppu.lineCycle + k < 1232
      · rw [if_pos hfirst, if_pos (by omega)]
      · rw [if_neg hfirst, if_neg (by omega), show (advance (k + 1) s).ppu.line = (advance k s).ppu.line by omega]

theorem advance_frameReady (k : Nat) :
    (advance k s).ppu.frameReady = true ↔ s.ppu.frameReady = true ∨ Passes (framePos s.ppu) k 280896 197120 := by
  induction k with
  | zero => simp [advance, passes_zero]
  | succ k ih =>
    obtain ⟨hck, hpos⟩ := advance_framePos hc k
    obtain ⟨-, -, -, -, -, hready⟩ := tick_dispstat (advance k s)
    have hline := vblankChange_iff hck
    rw [hpos, succ_mod_frame (dvd_refl _)] at hline
    rw [advance_succ, hready, passes_succ, Bool.or_eq_true, ih, or_assoc, Bool.and_eq_true, decide_eq_true_eq, decide_eq_true_eq]
    exact or_congr_right (or_congr_right hline)

end

/-- Settles O59: the counters by their position, each flag and interrupt bit by the cycles passed. -/
theorem ppuFrameTiming : Obligations.PpuFrameTiming := by
  intro s k hc
  obtain ⟨hline, hcycle⟩ := advance_counters hc k
  obtain ⟨-, -, hvblank, hhblank, -⟩ := (Ppu.countersOk_iff _).mp (advance_framePos hc k).1
  exact ⟨hline, hcycle, hvblank, hhblank, advance_vmatch hc k, advance_requests_vblank hc k, advance_requests_hblank hc k,
    advance_requests_vcount hc k, fun b hb => advance_keeps_bit hc hb k, advance_frameReady hc k, passes_vblank _⟩

end Sys2Proof.Claims
end
